-- ==== Sys2Proof/Word.lean ====
section
/-! DEFINITION. The two word types of the machine (spec/10_state.md R21 to R25): bytes of 8 bits and
addresses of 16 bits. `+` and `-` on them wrap modulo 2^8 and 2^16, as spec/00_scope.md R9 asks. -/

namespace Sys2Proof

/-- A byte: every register but PC, every memory cell and every data operand (R21 to R24, R50). -/
abbrev Byte := BitVec 8

/-- A 16-bit value: PC and every address of the CPU space (R25, R31). -/
abbrev Word := BitVec 16

end Sys2Proof
end

