-- ==== Sys2Proof/Config.lean ====
section
/-! DEFINITION. What the ISA instance and one loaded machine fix (spec/00_scope.md R7, spec/20_memory.md R58,
spec/50_bus_mapper.md R242, R262): the vectors, the sizes of the memories, and the parameters given at load time.
The parameters of one machine are the plain record `Params`, which the state carries and no step changes, so that a
theorem about every state is a theorem about every value of every open parameter (notes/assumptions/1.md). The one
open parameter that is a function, the `Device` oracle, stands in Sys2Proof/Machine/Device.lean. -/

namespace Sys2Proof.Config

/-- R58, R297: the NMI vector (low byte here, high byte at the next address). -/
def nmiVector : Word := 0xFFFA

/-- R58, R330: the reset vector. -/
def resetVector : Word := 0xFFFC

/-- R58, R298: the vector that IRQ and BRK share. -/
def irqVector : Word := 0xFFFE

/-- R24, R58: the high byte of every stack address (page 1). -/
def stackPage : Byte := 0x01

/-- R32: bytes of `RAM`. -/
def ramSize : Nat := 2048

/-- R32: bytes of `WRAM`, the work RAM. -/
def wramSize : Nat := 8192

/-- R32: bytes of `VRAM`, the nametable RAM. -/
def vramSize : Nat := 2048

/-- R248: bytes of one PRG bank. -/
def prgBankSize : Nat := 8192

/-- R248: bytes of one CHR unit. -/
def chrUnitSize : Nat := 1024

/-- R240: bytes of the flat RAM that may stand in place of the reference bus. -/
def flatSize : Nat := 65536

/-- What a memory address that no cell lists reads as. DESIGN CHOICE (unsafe, notes/assumptions/2.md): the spec gives
the initial content of RAM, WRAM, VRAM and writable CHR as "any value" (R32, D31). -/
def unlistedByte : Byte := 0x00

/-- R240: what the CPU core is attached to: the reference bus of spec/50_bus_mapper.md, or the flat 64 KiB RAM that
R240 allows and spec/95_test_vectors.md uses. -/
inductive BusKind where
  | reference
  | flatRam
  deriving DecidableEq, Repr

/-- R242: the closed set of mapper variants, as the load parameter `MAPPER`. -/
inductive MapperKind where
  | fixed
  | scanlineIrq
  | chrLatch
  deriving DecidableEq, Repr

/-- R33, R262: the four nametable mirroring modes. -/
inductive Mirroring where
  | vertical
  | horizontal
  | singleLow
  | singleHigh
  deriving DecidableEq, Repr

/-- R7, R35: the parameters of the step relation that one machine fixes at load time. -/
structure Params where
  /-- R240: the bus behind the memory trait. -/
  bus : BusKind
  /-- R7, D7: whether ADC and SBC honour P.D. -/
  decimalMode : Bool
  /-- R59, D17: the constant an unmapped address reads as. -/
  openBus : Byte
  /-- R245, D30: whether 0x6000 to 0x7FFF is work RAM. -/
  wramPresent : Bool
  /-- R249: `PRG_BANKS`, the clamped count of 8 KiB banks. -/
  prgBanks : Nat
  /-- R249: `CHR_UNITS`, the clamped count of 1 KiB units. -/
  chrUnits : Nat
  /-- R7, R259: whether `chr_write` changes CHR. -/
  chrWritable : Bool
  deriving DecidableEq, Repr

end Sys2Proof.Config
end

