-- ==== Sys2Proof/Machine/State.lean ====
section
/-! DEFINITION. The state of one machine (spec/10_state.md): the register file (R20 to R27), the interrupt controller
(R30), the bus with its memories (R32) and the mapper (R33), the parameters fixed at load (R35), and the two outputs of
the engine, the cycle count that `step()` returns (R350) and the diagnostics sink (R312). Plain data throughout. -/

namespace Sys2Proof.Machine

open Sys2Proof.Config

/-- A memory: (address, byte) cells with addresses strictly rising and no cell equal to `Config.unlistedByte`
(`Memory.wf`). An address without a cell reads as `Config.unlistedByte`. -/
abbrev Memory := List Host.Cell

/-- R26: the six stored bits of the status register P. The break bit is no storage (R27, C3). -/
structure Flags where
  /-- negative -/
  n : Bool
  /-- overflow -/
  v : Bool
  /-- decimal -/
  d : Bool
  /-- interrupt-disable -/
  i : Bool
  /-- zero -/
  z : Bool
  /-- carry -/
  c : Bool
  deriving DecidableEq, Repr

/-- R20 to R26: the register file. -/
structure Regs where
  /-- R21: the accumulator. -/
  a : Byte
  /-- R22: index register X. -/
  x : Byte
  /-- R23: index register Y. -/
  y : Byte
  /-- R24: the stack pointer, low byte of the address of the next free stack byte. -/
  s : Byte
  /-- R25: the program counter. -/
  pc : Word
  /-- R26: the status register. -/
  p : Flags
  deriving DecidableEq, Repr

/-- R30: the interrupt controller. -/
structure IntCtl where
  /-- the NMI edge latch -/
  nmiPending : Bool
  /-- the IRQ level flag -/
  irqLine : Bool
  deriving DecidableEq, Repr

/-- R33: the fields of the mapper variant `ScanlineIrq`. -/
structure ScanlineIrq where
  /-- last value written to the bank-select register -/
  bankSelect : Byte
  /-- bank data registers 0 to 7 -/
  bankReg : Vector Byte 8
  /-- reload value of the counter -/
  irqLatch : Byte
  /-- the countdown -/
  irqCounter : Byte
  irqEnable : Bool
  deriving DecidableEq, Repr

/-- R33: one CHR latch of the variant `ChrLatch`. -/
inductive Latch where
  | fd
  | fe
  deriving DecidableEq, Repr

/-- R33: the fields of the mapper variant `ChrLatch`. -/
structure ChrLatch where
  /-- bank of the switchable PRG window -/
  prgBank : Byte
  /-- `chr_fd[0]`, `chr_fd[1]`, `chr_fe[0]`, `chr_fe[1]`: the candidate 4 KiB CHR banks of each half -/
  chrFd0 : Byte
  chrFd1 : Byte
  chrFe0 : Byte
  chrFe1 : Byte
  latch0 : Latch
  latch1 : Latch
  deriving DecidableEq, Repr

/-- R33, R242: the mapper, one case per variant, holding only that variant's fields. -/
inductive Mapper where
  | fixed
  | scanlineIrq (m : ScanlineIrq)
  | chrLatch (m : ChrLatch)
  deriving DecidableEq, Repr

/-- R32, R33: the bus: its memories, the IRQ source flags, the mirroring mode and the mapper. -/
structure Bus where
  /-- R32: 2048 bytes of RAM. -/
  ram : Memory
  /-- R32: 8192 bytes of work RAM, reached only where `Params.wramPresent`. -/
  wram : Memory
  /-- R32: the loaded program ROM. -/
  prg : Memory
  /-- R32: the character ROM or RAM. -/
  chr : Memory
  /-- R32: 2048 bytes of nametable RAM. -/
  vram : Memory
  /-- R240: the 64 KiB of a machine whose bus is the flat RAM. -/
  flat : Memory
  /-- R32, R265: the mapper's IRQ request. -/
  irqSrcMapper : Bool
  /-- R32, R265: the external device's IRQ request. -/
  irqSrcExt : Bool
  /-- R33: the nametable mirroring mode. -/
  mirroring : Mirroring
  /-- R33: the mapper variant with its fields. -/
  mapper : Mapper
  /-- The MODEL's own counter of device accesses: it makes the answers of the `Device` oracle free from one access to
  the next (notes/assumptions/4.md). -/
  deviceTick : Nat
  deriving DecidableEq, Repr

/-- R312: the diagnostic events. -/
inductive DiagEvent where
  | undefinedOpcode (pc0 : Word) (op : Byte)
  | brk (pc0 : Word)
  | irqServiced (r : Word)
  | nmiServiced (r : Word)
  /-- R249: `RomClamped(kind, len, used)`; `isPrg` says which of PRG and CHR. -/
  | romClamped (isPrg : Bool) (len used : Nat)
  deriving DecidableEq, Repr

/-- The state of one machine instance. -/
structure State where
  reg : Regs
  intc : IntCtl
  bus : Bus
  params : Params
  /-- R350: the count the last `step()` returned (an output: read by no rule). -/
  cycles : Nat
  /-- R312: the diagnostics sink, oldest event first (an output: read by no rule). -/
  diag : List DiagEvent
  deriving DecidableEq, Repr

/-- R246: the two groups of device registers. -/
inductive DevicePort where
  | video
  | io
  deriving DecidableEq, Repr

/-- R246: the bus calls a device access may make, applied at once and in order. -/
inductive DeviceEffect where
  | setExtIrq (level : Bool)
  | notifyChrRead (a : Word)
  | notifyScanlineEdge
  | chrWrite (a : Word) (v : Byte)
  | ntWrite (a : Word) (v : Byte)
  deriving DecidableEq, Repr

/-- R246: what `Device.read` answers. -/
structure DeviceAnswer where
  value : Byte
  effects : List DeviceEffect
  deriving DecidableEq, Repr, Inhabited

/-- The reasons a step can stop with a fault: NONE. R300: "The 6502 instance raises no synchronous fault of any kind",
R290: `step()` "always returns a cycle count". The type is empty, so no meaning can raise one (safe). -/
inductive Fault where
  deriving DecidableEq, Repr

/-- The reasons a step can be refused. -/
inductive Refusal where
  /-- Raised only by an arm of `exec` whose instruction has no meaning yet (safe). No arm raises it in this model. -/
  | notModelled (mnemonic : String)
  deriving DecidableEq, Repr

/-- R40: the status register after construction and after `reset()`: I set, the rest clear. -/
def Flags.atReset : Flags := ⟨false, false, false, true, false, false⟩

/-- The load parameters of `State.reset` (R7). `decimalMode` and `openBus` are the spec's defaults (D7, D17), the others
DESIGN CHOICE (unsafe, notes/assumptions/3.md). -/
def Params.atReset : Params :=
  { bus := .reference, decimalMode := false, openBus := 0x00, wramPresent := true,
    prgBanks := 1, chrUnits := 8, chrWritable := true }

/-- R32, R250: the bus after `load`: nothing listed in any memory, no IRQ request. The variant and the mirroring mode are
load arguments, here `Fixed` and `Vertical` (DESIGN CHOICE, unsafe, notes/assumptions/3.md). -/
def Bus.atReset : Bus :=
  { ram := [], wram := [], prg := [], chr := [], vram := [], flat := [],
    irqSrcMapper := false, irqSrcExt := false, mirroring := .vertical, mapper := .fixed, deviceTick := 0 }

/-- R40, R330: the machine right after `reset()`. PC is what the reset vector of the empty PRG holds; that this state is
`reset()` applied to the loaded and constructed machine is the statement Obligations.ResetStateIsLoadThenReset. -/
def State.reset : State :=
  { reg := { a := 0x00, x := 0x00, y := 0x00, s := 0xFD, pc := 0x0000, p := Flags.atReset },
    intc := { nmiPending := false, irqLine := false },
    bus := Bus.atReset,
    params := Params.atReset,
    cycles := 0,
    diag := [] }

end Sys2Proof.Machine
end

