-- ==== Sys2Proof/Machine/Memory.lean ====
section
/-! DEFINITION. One memory as data: reading a byte, writing a byte, the canonical form, and building a memory from the bytes
a loader gives (spec/10_state.md R32, spec/50_bus_mapper.md R249). -/

namespace Sys2Proof.Machine

open Sys2Proof.Config

/-- The byte at an address; an address without a cell reads as `Config.unlistedByte`. -/
def Memory.get : Memory → Nat → Byte
  | [], _ => unlistedByte
  | (k, v) :: rest, a => if a = k then v else Memory.get rest a

/-- Add a cell, unless it says what an unlisted address reads as anyway. -/
def Memory.cons (a : Nat) (v : Byte) (m : Memory) : Memory := if v = unlistedByte then m else (a, v) :: m

/-- Write a byte, keeping the canonical form. -/
def Memory.set : Memory → Nat → Byte → Memory
  | [], a, v => Memory.cons a v []
  | (k, w) :: rest, a, v =>
    if a < k then Memory.cons a v ((k, w) :: rest)
    else if a = k then Memory.cons a v rest
    else (k, w) :: Memory.set rest a v

/-- The canonical form of the cells from address `lo` on: addresses strictly rising and below `size`, no cell equal to what an
unlisted address reads as. -/
def Memory.wfFrom (size : Nat) : Nat → Memory → Bool
  | _, [] => true
  | lo, (k, v) :: rest => lo ≤ k && k < size && v != unlistedByte && Memory.wfFrom size (k + 1) rest

/-- The canonical form of a memory of `size` bytes. -/
def Memory.wf (size : Nat) (m : Memory) : Bool := Memory.wfFrom size 0 m

/-- The memory that holds these bytes from address `k` on. -/
def Memory.ofBytesFrom : Nat → List Byte → Memory
  | _, [] => []
  | k, v :: rest => Memory.cons k v (Memory.ofBytesFrom (k + 1) rest)

/-- The memory that holds the first `size` of these bytes from address 0 on. -/
def Memory.ofBytes (size : Nat) (bytes : List Byte) : Memory := Memory.ofBytesFrom 0 (bytes.take size)

end Sys2Proof.Machine
end

