-- ==== Sys2Proof/Machine/Mapper.lean ====
section
/-! DEFINITION. The mapper and the video side of the reference bus (spec/50_bus_mapper.md R248 to R271): which PRG bank and
which CHR unit stands in each window, the control registers, the scanline counter, the CHR latches, nametable mirroring and
the IRQ sources. Nothing is cached: every access works from the current mapper state (R251, R253, R262). -/

namespace Sys2Proof.Machine

open Sys2Proof.Config

/-- R254: `bank_select[2:0]`. -/
def bankIndex (sel : Byte) : Fin 8 := ⟨sel.toNat % 8, Nat.mod_lt _ (by decide)⟩

/-- R252, R255, R269: `PrgWindowBank(w)`, the bank number of PRG window `w` before the reduction of R248. -/
def prgWindowBank (mapper : Mapper) (prgBanks : Nat) (w : Nat) : Int :=
  match mapper with
  | .fixed => (prgBanks : Int) - 4 + w
  | .scanlineIrq m =>
    match w with
    | 0 => if m.bankSelect.getLsbD 6 then (prgBanks : Int) - 2 else (m.bankReg[6].toNat : Int)
    | 1 => (m.bankReg[7].toNat : Int)
    | 2 => if m.bankSelect.getLsbD 6 then (m.bankReg[6].toNat : Int) else (prgBanks : Int) - 2
    | _ => (prgBanks : Int) - 1
  | .chrLatch m =>
    match w with
    | 0 => (m.prgBank.toNat : Int)
    | 1 => (prgBanks : Int) - 3
    | 2 => (prgBanks : Int) - 2
    | _ => (prgBanks : Int) - 1

/-- R248: `PrgBank(n) = n mod PRG_BANKS`, the non-negative remainder. -/
def prgBank (prgBanks : Nat) (n : Int) : Nat := (n % (prgBanks : Int)).toNat

/-- R248, R251: the offset in PRG of a CPU address in 0x8000 to 0xFFFF; the window is `a[14:13]`. -/
def prgIndex (mapper : Mapper) (prgBanks : Nat) (a : Word) : Nat :=
  prgBank prgBanks (prgWindowBank mapper prgBanks (a.toNat / 8192 % 4)) * prgBankSize + a.toNat % 8192

/-- R256: the unit of CHR window `u` of `ScanlineIrq` with `bank_select[7] == 0`. -/
def scanlineChrUnit (m : ScanlineIrq) (u : Nat) : Nat :=
  match u with
  | 0 | 1 => (m.bankReg[0] &&& 0xFE).toNat + u
  | 2 | 3 => (m.bankReg[1] &&& 0xFE).toNat + (u - 2)
  | 4 => m.bankReg[2].toNat
  | 5 => m.bankReg[3].toNat
  | 6 => m.bankReg[4].toNat
  | _ => m.bankReg[5].toNat

/-- R252, R256, R270: `ChrWindowUnit(u)`, before the reduction of R248. -/
def chrWindowUnit (mapper : Mapper) (u : Nat) : Nat :=
  match mapper with
  | .fixed => u
  | .scanlineIrq m => scanlineChrUnit m (if m.bankSelect.getLsbD 7 then u ^^^ 4 else u)
  | .chrLatch m =>
    let sel :=
      if u < 4 then (match m.latch0 with | .fd => m.chrFd0 | .fe => m.chrFe0)
      else (match m.latch1 with | .fd => m.chrFd1 | .fe => m.chrFe1)
    sel.toNat * 4 + u % 4

/-- R248: `ChrUnit(n) = n mod CHR_UNITS`. -/
def chrUnit (chrUnits n : Nat) : Nat := n % chrUnits

/-- R251: `ChrIndex(a)` for a video address in 0x0000 to 0x1FFF; the window is `a[12:10]`. -/
def chrIndex (mapper : Mapper) (chrUnits : Nat) (a : Nat) : Nat :=
  chrUnit chrUnits (chrWindowUnit mapper (a / 1024 % 8)) * chrUnitSize + a % 1024

/-- R262: the physical half of VRAM that logical nametable `t` shows. -/
def nametableHalf (m : Mirroring) (t : Nat) : Nat :=
  match m with
  | .vertical => t % 2
  | .horizontal => t / 2 % 2
  | .singleLow => 0
  | .singleHigh => 1

/-- R260: `NtIndex(a) = NT(a[11:10]) * 1024 + a[9:0]`. -/
def ntIndex (m : Mirroring) (a : Nat) : Nat := nametableHalf m (a / 1024 % 4) * 1024 + a % 1024

/-- R258: the three parts of the 14-bit video space. -/
inductive VideoRegion where
  /-- 0x0000 to 0x1FFF: the CHR window; `i` is the offset in CHR -/
  | chr (i : Nat)
  /-- 0x2000 to 0x3EFF: the nametables; `i` is the offset in VRAM -/
  | nametable (i : Nat)
  /-- 0x3F00 to 0x3FFF: the palette, no memory of the bus -/
  | palette
  deriving DecidableEq, Repr

/-- R258: where a video address leads, after its reduction to 14 bits. -/
def State.videoRegion (s : State) (a : Word) : VideoRegion :=
  let a := a.toNat % 0x4000
  if a < 0x2000 then .chr (chrIndex s.bus.mapper s.params.chrUnits a)
  else if a < 0x3F00 then .nametable (ntIndex s.bus.mirroring a)
  else .palette

/-- R258: `vread`, the one read call of the video side, named `chr_read` and `nt_read` by intent. It changes nothing. -/
def State.vread (s : State) (a : Word) : Byte :=
  match s.videoRegion a with
  | .chr i => s.bus.chr.get i
  | .nametable i => s.bus.vram.get i
  | .palette => s.params.openBus

/-- R258, R259, R261: `vwrite`, the one write call of the video side, named `chr_write` and `nt_write` by intent. -/
def State.vwrite (s : State) (a : Word) (v : Byte) : State :=
  match s.videoRegion a with
  | .chr i => if s.params.chrWritable then { s with bus := { s.bus with chr := s.bus.chr.set i v } } else s
  | .nametable i => { s with bus := { s.bus with vram := s.bus.vram.set i v } }
  | .palette => s

/-- R265: `UpdateIrq()`: the line is the OR of the sources. -/
def State.updateIrq (s : State) : State :=
  { s with intc := { s.intc with irqLine := s.bus.irqSrcMapper || s.bus.irqSrcExt } }

/-- R265: `set_ext_irq(level)`. -/
def State.setExtIrq (level : Bool) (s : State) : State :=
  State.updateIrq { s with bus := { s.bus with irqSrcExt := level } }

/-- The mapper's own IRQ request, then R265. -/
def State.setMapperIrq (level : Bool) (s : State) : State :=
  State.updateIrq { s with bus := { s.bus with irqSrcMapper := level } }

/-- Put new mapper fields in place. -/
def State.setMapper (m : Mapper) (s : State) : State := { s with bus := { s.bus with mapper := m } }

/-- Put a new mirroring mode in place. -/
def State.setMirroring (m : Mirroring) (s : State) : State := { s with bus := { s.bus with mirroring := m } }

/-- R254, R268: `Vertical` if `v[0] == 0`, `Horizontal` if `v[0] == 1`. -/
def mirroringOf (v : Byte) : Mirroring := if v.getLsbD 0 then .horizontal else .vertical

/-- R254: the control registers of `ScanlineIrq`, selected by `a & 0xE001`. -/
def State.scanlineWrite (m : ScanlineIrq) (a : Word) (v : Byte) (s : State) : State :=
  let sel := a &&& 0xE001
  if sel = 0x8000 then s.setMapper (.scanlineIrq { m with bankSelect := v })
  else if sel = 0x8001 then s.setMapper (.scanlineIrq { m with bankReg := m.bankReg.set (bankIndex m.bankSelect) v })
  else if sel = 0xA000 then s.setMirroring (mirroringOf v)
  else if sel = 0xA001 then s
  else if sel = 0xC000 then s.setMapper (.scanlineIrq { m with irqLatch := v })
  else if sel = 0xC001 then s.setMapper (.scanlineIrq { m with irqCounter := m.irqLatch })
  else if sel = 0xE000 then (s.setMapper (.scanlineIrq { m with irqEnable := false })).setMapperIrq false
  else if sel = 0xE001 then s.setMapper (.scanlineIrq { m with irqEnable := true })
  else s

/-- R268: the control registers of `ChrLatch`, selected by `a & 0xF000`. -/
def State.chrLatchWrite (m : ChrLatch) (a : Word) (v : Byte) (s : State) : State :=
  let sel := a &&& 0xF000
  if sel = 0xA000 then s.setMapper (.chrLatch { m with prgBank := v })
  else if sel = 0xB000 then s.setMapper (.chrLatch { m with chrFd0 := v })
  else if sel = 0xC000 then s.setMapper (.chrLatch { m with chrFe0 := v })
  else if sel = 0xD000 then s.setMapper (.chrLatch { m with chrFd1 := v })
  else if sel = 0xE000 then s.setMapper (.chrLatch { m with chrFe1 := v })
  else if sel = 0xF000 then s.setMirroring (mirroringOf v)
  else s

/-- R245, R252, R254, R268: `MapperWrite(a, v)` for a CPU address in 0x8000 to 0xFFFF. -/
def State.mapperWrite (a : Word) (v : Byte) (s : State) : State :=
  match s.bus.mapper with
  | .fixed => s
  | .scanlineIrq m => s.scanlineWrite m a v
  | .chrLatch m => s.chrLatchWrite m a v

/-- R257, R263: `notify_scanline_edge()`. -/
def State.notifyScanlineEdge (s : State) : State :=
  match s.bus.mapper with
  | .scanlineIrq m =>
    if m.irqCounter = 0 then s.setMapper (.scanlineIrq { m with irqCounter := m.irqLatch })
    else
      let s := s.setMapper (.scanlineIrq { m with irqCounter := m.irqCounter - 1 })
      if m.irqCounter - 1 = 0 && m.irqEnable then s.setMapperIrq true else s
  | .fixed => s
  | .chrLatch _ => s

/-- R271: the latch update for a CHR fetch at a video address reduced to 14 bits. -/
def ChrLatch.notify (m : ChrLatch) (a : Nat) : ChrLatch :=
  if a = 0x0FD8 then { m with latch0 := .fd }
  else if a = 0x0FE8 then { m with latch0 := .fe }
  else if 0x1FD8 ≤ a && a ≤ 0x1FDF then { m with latch1 := .fd }
  else if 0x1FE8 ≤ a && a ≤ 0x1FEF then { m with latch1 := .fe }
  else m

/-- R264, R271: `notify_chr_read(a)`, also called `notify_chr_fetch` (C4). -/
def State.notifyChrRead (a : Word) (s : State) : State :=
  match s.bus.mapper with
  | .chrLatch m => s.setMapper (.chrLatch (m.notify (a.toNat % 0x4000)))
  | .fixed => s
  | .scanlineIrq _ => s

end Sys2Proof.Machine
end

