-- ==== Sys2Proof/Machine/Device.lean ====
section
/-! DEFINITION. The device ports (spec/50_bus_mapper.md R246): the `Device` oracle, which is the open parameter D22, and what
one access of a device register does. -/

namespace Sys2Proof.Config

open Sys2Proof.Machine

/-- R246, D22, U6: `Device.read(port, reg)`: a FREE VALUE (no body). It may depend on anything in the machine, so it is given the state,
whose `deviceTick` differs at every access, but for the diagnostics sink (`State.withoutSink`, notes/assumptions/4.md). -/
opaque deviceRead : State → DevicePort → BitVec 5 → DeviceAnswer

/-- R246, D22, U6: `Device.write(port, reg, v)`: a FREE VALUE (no body), as `deviceRead`. -/
opaque deviceWrite : State → DevicePort → BitVec 5 → Byte → List DeviceEffect

end Sys2Proof.Config

namespace Sys2Proof.Machine

/-- R246: one bus call of an effects list. -/
def State.applyEffect (e : DeviceEffect) (s : State) : State :=
  match e with
  | .setExtIrq level => s.setExtIrq level
  | .notifyChrRead a => s.notifyChrRead a
  | .notifyScanlineEdge => s.notifyScanlineEdge
  | .chrWrite a v => s.vwrite a v
  | .ntWrite a v => s.vwrite a v

/-- R246: the effects list, "applied in order at once". -/
def State.applyEffects : List DeviceEffect → State → State
  | [], s => s
  | e :: rest, s => State.applyEffects rest (s.applyEffect e)

/-- R312, D24: the state as a device sees it: all but the diagnostics sink, on which nothing depends. -/
def State.withoutSink (s : State) : State := { s with diag := [] }

/-- Count one device access (the model's own counter). -/
def State.tickDevice (s : State) : State := { s with bus := { s.bus with deviceTick := s.bus.deviceTick + 1 } }

/-- R246: a read of a device register: the oracle's byte, and the state after its effects. -/
def State.deviceRead (s : State) (port : DevicePort) (reg : BitVec 5) : Byte × State :=
  let answer := Config.deviceRead s.withoutSink port reg
  (answer.value, (s.applyEffects answer.effects).tickDevice)

/-- R246: a write of a device register: the state after the oracle's effects. -/
def State.deviceWrite (s : State) (port : DevicePort) (reg : BitVec 5) (v : Byte) : State :=
  (s.applyEffects (Config.deviceWrite s.withoutSink port reg v)).tickDevice

end Sys2Proof.Machine
end

