-- ==== Sys2Proof/Syntax.lean ====
section
/-! DEFINITION. The syntax of the 6502 instance (spec/30_encoding.md): the thirteen addressing modes (R83, R100) and the
256 instructions, one constructor for each row of spec/opcode_table.json, that is, for each opcode byte: 151 official ones
(R84) named mnemonic-and-mode, and the 105 undefined ones (R86). `b` is the operand byte and `w` the operand word
(R81: low byte first) of the instruction. -/

namespace Sys2Proof

/-- R83, R101 to R113: the addressing modes. -/
inductive Mode where
  | imp
  | acc
  | imm
  | zp
  | zpx
  | zpy
  | abs
  | abx
  | aby
  | ind
  | izx
  | izy
  | rel
  deriving DecidableEq, Repr

/-- R81: how many bytes an instruction of the mode has. -/
def Mode.length : Mode → Nat
  | .imp | .acc => 1
  | .imm | .zp | .zpx | .zpy | .izx | .izy | .rel => 2
  | .abs | .abx | .aby | .ind => 3

/-- The instructions: one constructor per opcode byte. -/
inductive Instr where
  -- Arithmetic (spec/41_arithmetic.md)
  | adcImm (b : Byte)  -- 0x69 ADC IMM, R121
  | adcZp (b : Byte)  -- 0x65 ADC ZP, R121
  | adcZpx (b : Byte)  -- 0x75 ADC ZPX, R121
  | adcAbs (w : Word)  -- 0x6D ADC ABS, R121
  | adcAbx (w : Word)  -- 0x7D ADC ABX, R121
  | adcAby (w : Word)  -- 0x79 ADC ABY, R121
  | adcIzx (b : Byte)  -- 0x61 ADC IZX, R121
  | adcIzy (b : Byte)  -- 0x71 ADC IZY, R121
  | sbcImm (b : Byte)  -- 0xE9 SBC IMM, R122
  | sbcZp (b : Byte)  -- 0xE5 SBC ZP, R122
  | sbcZpx (b : Byte)  -- 0xF5 SBC ZPX, R122
  | sbcAbs (w : Word)  -- 0xED SBC ABS, R122
  | sbcAbx (w : Word)  -- 0xFD SBC ABX, R122
  | sbcAby (w : Word)  -- 0xF9 SBC ABY, R122
  | sbcIzx (b : Byte)  -- 0xE1 SBC IZX, R122
  | sbcIzy (b : Byte)  -- 0xF1 SBC IZY, R122
  -- Increment and decrement (spec/42_incdec.md)
  | incZp (b : Byte)  -- 0xE6 INC ZP, R131
  | incZpx (b : Byte)  -- 0xF6 INC ZPX, R131
  | incAbs (w : Word)  -- 0xEE INC ABS, R131
  | incAbx (w : Word)  -- 0xFE INC ABX, R131
  | decZp (b : Byte)  -- 0xC6 DEC ZP, R132
  | decZpx (b : Byte)  -- 0xD6 DEC ZPX, R132
  | decAbs (w : Word)  -- 0xCE DEC ABS, R132
  | decAbx (w : Word)  -- 0xDE DEC ABX, R132
  | inx  -- 0xE8 INX IMP, R133
  | iny  -- 0xC8 INY IMP, R134
  | dex  -- 0xCA DEX IMP, R135
  | dey  -- 0x88 DEY IMP, R136
  -- Logical (spec/43_logical.md)
  | andImm (b : Byte)  -- 0x29 AND IMM, R141
  | andZp (b : Byte)  -- 0x25 AND ZP, R141
  | andZpx (b : Byte)  -- 0x35 AND ZPX, R141
  | andAbs (w : Word)  -- 0x2D AND ABS, R141
  | andAbx (w : Word)  -- 0x3D AND ABX, R141
  | andAby (w : Word)  -- 0x39 AND ABY, R141
  | andIzx (b : Byte)  -- 0x21 AND IZX, R141
  | andIzy (b : Byte)  -- 0x31 AND IZY, R141
  | oraImm (b : Byte)  -- 0x09 ORA IMM, R142
  | oraZp (b : Byte)  -- 0x05 ORA ZP, R142
  | oraZpx (b : Byte)  -- 0x15 ORA ZPX, R142
  | oraAbs (w : Word)  -- 0x0D ORA ABS, R142
  | oraAbx (w : Word)  -- 0x1D ORA ABX, R142
  | oraAby (w : Word)  -- 0x19 ORA ABY, R142
  | oraIzx (b : Byte)  -- 0x01 ORA IZX, R142
  | oraIzy (b : Byte)  -- 0x11 ORA IZY, R142
  | eorImm (b : Byte)  -- 0x49 EOR IMM, R143
  | eorZp (b : Byte)  -- 0x45 EOR ZP, R143
  | eorZpx (b : Byte)  -- 0x55 EOR ZPX, R143
  | eorAbs (w : Word)  -- 0x4D EOR ABS, R143
  | eorAbx (w : Word)  -- 0x5D EOR ABX, R143
  | eorAby (w : Word)  -- 0x59 EOR ABY, R143
  | eorIzx (b : Byte)  -- 0x41 EOR IZX, R143
  | eorIzy (b : Byte)  -- 0x51 EOR IZY, R143
  | bitZp (b : Byte)  -- 0x24 BIT ZP, R144
  | bitAbs (w : Word)  -- 0x2C BIT ABS, R144
  -- Compare (spec/44_compare.md)
  | cmpImm (b : Byte)  -- 0xC9 CMP IMM, R151
  | cmpZp (b : Byte)  -- 0xC5 CMP ZP, R151
  | cmpZpx (b : Byte)  -- 0xD5 CMP ZPX, R151
  | cmpAbs (w : Word)  -- 0xCD CMP ABS, R151
  | cmpAbx (w : Word)  -- 0xDD CMP ABX, R151
  | cmpAby (w : Word)  -- 0xD9 CMP ABY, R151
  | cmpIzx (b : Byte)  -- 0xC1 CMP IZX, R151
  | cmpIzy (b : Byte)  -- 0xD1 CMP IZY, R151
  | cpxImm (b : Byte)  -- 0xE0 CPX IMM, R152
  | cpxZp (b : Byte)  -- 0xE4 CPX ZP, R152
  | cpxAbs (w : Word)  -- 0xEC CPX ABS, R152
  | cpyImm (b : Byte)  -- 0xC0 CPY IMM, R153
  | cpyZp (b : Byte)  -- 0xC4 CPY ZP, R153
  | cpyAbs (w : Word)  -- 0xCC CPY ABS, R153
  -- Shifts and rotates (spec/45_shift_rotate.md)
  | aslAcc  -- 0x0A ASL ACC, R161
  | aslZp (b : Byte)  -- 0x06 ASL ZP, R161
  | aslZpx (b : Byte)  -- 0x16 ASL ZPX, R161
  | aslAbs (w : Word)  -- 0x0E ASL ABS, R161
  | aslAbx (w : Word)  -- 0x1E ASL ABX, R161
  | lsrAcc  -- 0x4A LSR ACC, R162
  | lsrZp (b : Byte)  -- 0x46 LSR ZP, R162
  | lsrZpx (b : Byte)  -- 0x56 LSR ZPX, R162
  | lsrAbs (w : Word)  -- 0x4E LSR ABS, R162
  | lsrAbx (w : Word)  -- 0x5E LSR ABX, R162
  | rolAcc  -- 0x2A ROL ACC, R163
  | rolZp (b : Byte)  -- 0x26 ROL ZP, R163
  | rolZpx (b : Byte)  -- 0x36 ROL ZPX, R163
  | rolAbs (w : Word)  -- 0x2E ROL ABS, R163
  | rolAbx (w : Word)  -- 0x3E ROL ABX, R163
  | rorAcc  -- 0x6A ROR ACC, R164
  | rorZp (b : Byte)  -- 0x66 ROR ZP, R164
  | rorZpx (b : Byte)  -- 0x76 ROR ZPX, R164
  | rorAbs (w : Word)  -- 0x6E ROR ABS, R164
  | rorAbx (w : Word)  -- 0x7E ROR ABX, R164
  -- Loads, stores, transfers (spec/46_load_store_transfer.md)
  | ldaImm (b : Byte)  -- 0xA9 LDA IMM, R171
  | ldaZp (b : Byte)  -- 0xA5 LDA ZP, R171
  | ldaZpx (b : Byte)  -- 0xB5 LDA ZPX, R171
  | ldaAbs (w : Word)  -- 0xAD LDA ABS, R171
  | ldaAbx (w : Word)  -- 0xBD LDA ABX, R171
  | ldaAby (w : Word)  -- 0xB9 LDA ABY, R171
  | ldaIzx (b : Byte)  -- 0xA1 LDA IZX, R171
  | ldaIzy (b : Byte)  -- 0xB1 LDA IZY, R171
  | ldxImm (b : Byte)  -- 0xA2 LDX IMM, R172
  | ldxZp (b : Byte)  -- 0xA6 LDX ZP, R172
  | ldxZpy (b : Byte)  -- 0xB6 LDX ZPY, R172
  | ldxAbs (w : Word)  -- 0xAE LDX ABS, R172
  | ldxAby (w : Word)  -- 0xBE LDX ABY, R172
  | ldyImm (b : Byte)  -- 0xA0 LDY IMM, R173
  | ldyZp (b : Byte)  -- 0xA4 LDY ZP, R173
  | ldyZpx (b : Byte)  -- 0xB4 LDY ZPX, R173
  | ldyAbs (w : Word)  -- 0xAC LDY ABS, R173
  | ldyAbx (w : Word)  -- 0xBC LDY ABX, R173
  | staZp (b : Byte)  -- 0x85 STA ZP, R174
  | staZpx (b : Byte)  -- 0x95 STA ZPX, R174
  | staAbs (w : Word)  -- 0x8D STA ABS, R174
  | staAbx (w : Word)  -- 0x9D STA ABX, R174
  | staAby (w : Word)  -- 0x99 STA ABY, R174
  | staIzx (b : Byte)  -- 0x81 STA IZX, R174
  | staIzy (b : Byte)  -- 0x91 STA IZY, R174
  | stxZp (b : Byte)  -- 0x86 STX ZP, R175
  | stxZpy (b : Byte)  -- 0x96 STX ZPY, R175
  | stxAbs (w : Word)  -- 0x8E STX ABS, R175
  | styZp (b : Byte)  -- 0x84 STY ZP, R176
  | styZpx (b : Byte)  -- 0x94 STY ZPX, R176
  | styAbs (w : Word)  -- 0x8C STY ABS, R176
  | tax  -- 0xAA TAX IMP, R177
  | tay  -- 0xA8 TAY IMP, R178
  | txa  -- 0x8A TXA IMP, R179
  | tya  -- 0x98 TYA IMP, R180
  | tsx  -- 0xBA TSX IMP, R181
  | txs  -- 0x9A TXS IMP, R182
  -- Stack, flags, NOP (spec/47_stack_flags.md)
  | pha  -- 0x48 PHA IMP, R191
  | php  -- 0x08 PHP IMP, R192
  | pla  -- 0x68 PLA IMP, R193
  | plp  -- 0x28 PLP IMP, R194
  | clc  -- 0x18 CLC IMP, R195
  | sec  -- 0x38 SEC IMP, R196
  | cli  -- 0x58 CLI IMP, R197
  | sei  -- 0x78 SEI IMP, R198
  | cld  -- 0xD8 CLD IMP, R199
  | sed  -- 0xF8 SED IMP, R200
  | clv  -- 0xB8 CLV IMP, R201
  | nop  -- 0xEA NOP IMP, R202
  -- Jumps, subroutines, branches (spec/48_control_flow.md)
  | jmpAbs (w : Word)  -- 0x4C JMP ABS, R210
  | jmpInd (w : Word)  -- 0x6C JMP IND, R211
  | jsr (w : Word)  -- 0x20 JSR ABS, R212
  | rts  -- 0x60 RTS IMP, R213
  | bcc (b : Byte)  -- 0x90 BCC REL, R215
  | bcs (b : Byte)  -- 0xB0 BCS REL, R216
  | beq (b : Byte)  -- 0xF0 BEQ REL, R217
  | bne (b : Byte)  -- 0xD0 BNE REL, R218
  | bmi (b : Byte)  -- 0x30 BMI REL, R219
  | bpl (b : Byte)  -- 0x10 BPL REL, R220
  | bvc (b : Byte)  -- 0x50 BVC REL, R221
  | bvs (b : Byte)  -- 0x70 BVS REL, R222
  -- System (spec/49_system.md)
  | brk  -- 0x00 BRK IMP, R230
  | rti  -- 0x40 RTI IMP, R231
  -- Undefined opcodes (spec/49_system.md R232), the list of R86
  | und02 | und03 | und04 | und07 | und0B | und0C | und0F | und12
  | und13 | und14 | und17 | und1A | und1B | und1C | und1F | und22
  | und23 | und27 | und2B | und2F | und32 | und33 | und34 | und37
  | und3A | und3B | und3C | und3F | und42 | und43 | und44 | und47
  | und4B | und4F | und52 | und53 | und54 | und57 | und5A | und5B
  | und5C | und5F | und62 | und63 | und64 | und67 | und6B | und6F
  | und72 | und73 | und74 | und77 | und7A | und7B | und7C | und7F
  | und80 | und82 | und83 | und87 | und89 | und8B | und8F | und92
  | und93 | und97 | und9B | und9C | und9E | und9F | undA3 | undA7
  | undAB | undAF | undB2 | undB3 | undB7 | undBB | undBF | undC2
  | undC3 | undC7 | undCB | undCF | undD2 | undD3 | undD4 | undD7
  | undDA | undDB | undDC | undDF | undE2 | undE3 | undE7 | undEB
  | undEF | undF2 | undF3 | undF4 | undF7 | undFA | undFB | undFC
  | undFF
  deriving DecidableEq, Repr

/-- R81: the instruction formats of an undefined opcode and of every official one, as the mode of rule R84. -/
def Instr.mode : Instr → Mode
  | .adcImm _ => .imm
  | .adcZp _ => .zp
  | .adcZpx _ => .zpx
  | .adcAbs _ => .abs
  | .adcAbx _ => .abx
  | .adcAby _ => .aby
  | .adcIzx _ => .izx
  | .adcIzy _ => .izy
  | .sbcImm _ => .imm
  | .sbcZp _ => .zp
  | .sbcZpx _ => .zpx
  | .sbcAbs _ => .abs
  | .sbcAbx _ => .abx
  | .sbcAby _ => .aby
  | .sbcIzx _ => .izx
  | .sbcIzy _ => .izy
  | .incZp _ => .zp
  | .incZpx _ => .zpx
  | .incAbs _ => .abs
  | .incAbx _ => .abx
  | .decZp _ => .zp
  | .decZpx _ => .zpx
  | .decAbs _ => .abs
  | .decAbx _ => .abx
  | .inx => .imp
  | .iny => .imp
  | .dex => .imp
  | .dey => .imp
  | .andImm _ => .imm
  | .andZp _ => .zp
  | .andZpx _ => .zpx
  | .andAbs _ => .abs
  | .andAbx _ => .abx
  | .andAby _ => .aby
  | .andIzx _ => .izx
  | .andIzy _ => .izy
  | .oraImm _ => .imm
  | .oraZp _ => .zp
  | .oraZpx _ => .zpx
  | .oraAbs _ => .abs
  | .oraAbx _ => .abx
  | .oraAby _ => .aby
  | .oraIzx _ => .izx
  | .oraIzy _ => .izy
  | .eorImm _ => .imm
  | .eorZp _ => .zp
  | .eorZpx _ => .zpx
  | .eorAbs _ => .abs
  | .eorAbx _ => .abx
  | .eorAby _ => .aby
  | .eorIzx _ => .izx
  | .eorIzy _ => .izy
  | .bitZp _ => .zp
  | .bitAbs _ => .abs
  | .cmpImm _ => .imm
  | .cmpZp _ => .zp
  | .cmpZpx _ => .zpx
  | .cmpAbs _ => .abs
  | .cmpAbx _ => .abx
  | .cmpAby _ => .aby
  | .cmpIzx _ => .izx
  | .cmpIzy _ => .izy
  | .cpxImm _ => .imm
  | .cpxZp _ => .zp
  | .cpxAbs _ => .abs
  | .cpyImm _ => .imm
  | .cpyZp _ => .zp
  | .cpyAbs _ => .abs
  | .aslAcc => .acc
  | .aslZp _ => .zp
  | .aslZpx _ => .zpx
  | .aslAbs _ => .abs
  | .aslAbx _ => .abx
  | .lsrAcc => .acc
  | .lsrZp _ => .zp
  | .lsrZpx _ => .zpx
  | .lsrAbs _ => .abs
  | .lsrAbx _ => .abx
  | .rolAcc => .acc
  | .rolZp _ => .zp
  | .rolZpx _ => .zpx
  | .rolAbs _ => .abs
  | .rolAbx _ => .abx
  | .rorAcc => .acc
  | .rorZp _ => .zp
  | .rorZpx _ => .zpx
  | .rorAbs _ => .abs
  | .rorAbx _ => .abx
  | .ldaImm _ => .imm
  | .ldaZp _ => .zp
  | .ldaZpx _ => .zpx
  | .ldaAbs _ => .abs
  | .ldaAbx _ => .abx
  | .ldaAby _ => .aby
  | .ldaIzx _ => .izx
  | .ldaIzy _ => .izy
  | .ldxImm _ => .imm
  | .ldxZp _ => .zp
  | .ldxZpy _ => .zpy
  | .ldxAbs _ => .abs
  | .ldxAby _ => .aby
  | .ldyImm _ => .imm
  | .ldyZp _ => .zp
  | .ldyZpx _ => .zpx
  | .ldyAbs _ => .abs
  | .ldyAbx _ => .abx
  | .staZp _ => .zp
  | .staZpx _ => .zpx
  | .staAbs _ => .abs
  | .staAbx _ => .abx
  | .staAby _ => .aby
  | .staIzx _ => .izx
  | .staIzy _ => .izy
  | .stxZp _ => .zp
  | .stxZpy _ => .zpy
  | .stxAbs _ => .abs
  | .styZp _ => .zp
  | .styZpx _ => .zpx
  | .styAbs _ => .abs
  | .tax => .imp
  | .tay => .imp
  | .txa => .imp
  | .tya => .imp
  | .tsx => .imp
  | .txs => .imp
  | .pha => .imp
  | .php => .imp
  | .pla => .imp
  | .plp => .imp
  | .clc => .imp
  | .sec => .imp
  | .cli => .imp
  | .sei => .imp
  | .cld => .imp
  | .sed => .imp
  | .clv => .imp
  | .nop => .imp
  | .jmpAbs _ => .abs
  | .jmpInd _ => .ind
  | .jsr _ => .abs
  | .rts => .imp
  | .bcc _ => .rel
  | .bcs _ => .rel
  | .beq _ => .rel
  | .bne _ => .rel
  | .bmi _ => .rel
  | .bpl _ => .rel
  | .bvc _ => .rel
  | .bvs _ => .rel
  | .brk => .imp
  | .rti => .imp
  | .und02 | .und03 | .und04 | .und07 | .und0B | .und0C | .und0F | .und12
  | .und13 | .und14 | .und17 | .und1A | .und1B | .und1C | .und1F | .und22
  | .und23 | .und27 | .und2B | .und2F | .und32 | .und33 | .und34 | .und37
  | .und3A | .und3B | .und3C | .und3F | .und42 | .und43 | .und44 | .und47
  | .und4B | .und4F | .und52 | .und53 | .und54 | .und57 | .und5A | .und5B
  | .und5C | .und5F | .und62 | .und63 | .und64 | .und67 | .und6B | .und6F
  | .und72 | .und73 | .und74 | .und77 | .und7A | .und7B | .und7C | .und7F
  | .und80 | .und82 | .und83 | .und87 | .und89 | .und8B | .und8F | .und92
  | .und93 | .und97 | .und9B | .und9C | .und9E | .und9F | .undA3 | .undA7
  | .undAB | .undAF | .undB2 | .undB3 | .undB7 | .undBB | .undBF | .undC2
  | .undC3 | .undC7 | .undCB | .undCF | .undD2 | .undD3 | .undD4 | .undD7
  | .undDA | .undDB | .undDC | .undDF | .undE2 | .undE3 | .undE7 | .undEB
  | .undEF | .undF2 | .undF3 | .undF4 | .undF7 | .undFA | .undFB | .undFC
  | .undFF => .imp

end Sys2Proof
end

