-- ==== Sys2Proof/WellFormed.lean ====
section
/-! DEFINITION. Well-formedness (spec/30_encoding.md R80, R81). Every term of `Instr` is well formed: its operand is a byte
or a word by its type, and R83 admits every value of either. What can be ill formed is a string of bytes offered as one
instruction: it must be there, and be exactly as long as its opcode byte alone says. -/

namespace Sys2Proof

/-- Every term of `Instr` is an instruction: R83 admits every value of the operand byte or word its constructor holds. -/
def Instr.wf (_i : Instr) : Bool := true

/-- R81: the length of an instruction by its opcode byte alone, row = high digit and column = low digit of the opcode. -/
def lengthTable : List (List Nat) :=
  [[1, 2, 1, 1, 1, 2, 2, 1, 1, 2, 1, 1, 1, 3, 3, 1],
   [2, 2, 1, 1, 1, 2, 2, 1, 1, 3, 1, 1, 1, 3, 3, 1],
   [3, 2, 1, 1, 2, 2, 2, 1, 1, 2, 1, 1, 3, 3, 3, 1],
   [2, 2, 1, 1, 1, 2, 2, 1, 1, 3, 1, 1, 1, 3, 3, 1],
   [1, 2, 1, 1, 1, 2, 2, 1, 1, 2, 1, 1, 3, 3, 3, 1],
   [2, 2, 1, 1, 1, 2, 2, 1, 1, 3, 1, 1, 1, 3, 3, 1],
   [1, 2, 1, 1, 1, 2, 2, 1, 1, 2, 1, 1, 3, 3, 3, 1],
   [2, 2, 1, 1, 1, 2, 2, 1, 1, 3, 1, 1, 1, 3, 3, 1],
   [1, 2, 1, 1, 2, 2, 2, 1, 1, 1, 1, 1, 3, 3, 3, 1],
   [2, 2, 1, 1, 2, 2, 2, 1, 1, 3, 1, 1, 1, 3, 1, 1],
   [2, 2, 2, 1, 2, 2, 2, 1, 1, 2, 1, 1, 3, 3, 3, 1],
   [2, 2, 1, 1, 2, 2, 2, 1, 1, 3, 1, 1, 3, 3, 3, 1],
   [2, 2, 1, 1, 2, 2, 2, 1, 1, 2, 1, 1, 3, 3, 3, 1],
   [2, 2, 1, 1, 1, 2, 2, 1, 1, 3, 1, 1, 1, 3, 3, 1],
   [2, 2, 1, 1, 2, 2, 2, 1, 1, 2, 1, 1, 3, 3, 3, 1],
   [2, 2, 1, 1, 1, 2, 2, 1, 1, 3, 1, 1, 1, 3, 3, 1]]

/-- R81: the length in bytes of the instruction that begins with this opcode byte. -/
def opcodeLength (op : Byte) : Nat := (lengthTable.getD (op.toNat / 16) []).getD (op.toNat % 16) 1

/-- R80, R81: the bytes are exactly one instruction: not empty, not too short and not too long for the opcode. -/
def wfBytes : List Byte → Bool
  | [] => false
  | op :: rest => rest.length + 1 == opcodeLength op

end Sys2Proof
end

