-- ==== Sys2Proof/Decode.lean ====
section
/-! DEFINITION. Decoding and encoding (spec/30_encoding.md). The decoder is the dispatch table of R80, written in the shape
of the matrix R85: row = high digit of the opcode byte, column = low digit. The encoder is written from the other copy of the
map, the list by mnemonic R84. No opcode byte is refused (R80: "decoding never fails"); the decoder refuses, by name, only a
string of bytes that ends before the instruction does. -/

namespace Sys2Proof

/-- R9: the low byte `w[7:0]` of a word. -/
def lowByte (w : Word) : Byte := w.extractLsb' 0 8

/-- R9: the high byte `w[15:8]` of a word. -/
def highByte (w : Word) : Byte := w.extractLsb' 8 8

/-- R9: `{hi, lo}`. -/
def wordOf (hi lo : Byte) : Word := hi ++ lo

/-- R80, R88: one entry of the dispatch table. -/
structure Row where
  mnemonic : String
  mode : Mode
  /-- base cycle count (R84) -/
  cycles : Nat
  /-- `+p` of R84 -/
  pagePenalty : Bool
  /-- whether the opcode is one of the 151 official ones -/
  official : Bool
  /-- the instruction, from the bytes at PC+1 and PC+2 (those the mode does not have are ignored) -/
  build : Byte → Byte → Instr

/-- An entry of an instruction without operand. -/
def Row.imp (mn : String) (m : Mode) (cycles : Nat) (i : Instr) : Row := ⟨mn, m, cycles, false, true, fun _ _ => i⟩

/-- An entry of an instruction with one operand byte. -/
def Row.byte (mn : String) (m : Mode) (cycles : Nat) (f : Byte → Instr) : Row :=
  ⟨mn, m, cycles, false, true, fun lo _ => f lo⟩

/-- An entry of an instruction with an operand word, low byte first (R52 b). -/
def Row.word (mn : String) (m : Mode) (cycles : Nat) (f : Word → Instr) : Row :=
  ⟨mn, m, cycles, false, true, fun lo hi => f (wordOf hi lo)⟩

/-- The same entry with the page-cross penalty `+p` (R84, R114). -/
def Row.plusP (r : Row) : Row := { r with pagePenalty := true }

/-- R86, R232: the entry of an undefined opcode. -/
def Row.und (mn : String) (i : Instr) : Row := ⟨mn, .imp, 2, false, false, fun _ _ => i⟩

/-- R85, row 0x. -/
def dispatchRow0 : List Row :=
  [.imp "BRK" .imp 7 .brk,
   .byte "ORA" .izx 6 .oraIzx,
   .und "UND_02" .und02,
   .und "UND_03" .und03,
   .und "UND_04" .und04,
   .byte "ORA" .zp 3 .oraZp,
   .byte "ASL" .zp 5 .aslZp,
   .und "UND_07" .und07,
   .imp "PHP" .imp 3 .php,
   .byte "ORA" .imm 2 .oraImm,
   .imp "ASL" .acc 2 .aslAcc,
   .und "UND_0B" .und0B,
   .und "UND_0C" .und0C,
   .word "ORA" .abs 4 .oraAbs,
   .word "ASL" .abs 6 .aslAbs,
   .und "UND_0F" .und0F]

/-- R85, row 1x. -/
def dispatchRow1 : List Row :=
  [.byte "BPL" .rel 2 .bpl,
   Row.plusP (.byte "ORA" .izy 5 .oraIzy),
   .und "UND_12" .und12,
   .und "UND_13" .und13,
   .und "UND_14" .und14,
   .byte "ORA" .zpx 4 .oraZpx,
   .byte "ASL" .zpx 6 .aslZpx,
   .und "UND_17" .und17,
   .imp "CLC" .imp 2 .clc,
   Row.plusP (.word "ORA" .aby 4 .oraAby),
   .und "UND_1A" .und1A,
   .und "UND_1B" .und1B,
   .und "UND_1C" .und1C,
   Row.plusP (.word "ORA" .abx 4 .oraAbx),
   .word "ASL" .abx 7 .aslAbx,
   .und "UND_1F" .und1F]

/-- R85, row 2x. -/
def dispatchRow2 : List Row :=
  [.word "JSR" .abs 6 .jsr,
   .byte "AND" .izx 6 .andIzx,
   .und "UND_22" .und22,
   .und "UND_23" .und23,
   .byte "BIT" .zp 3 .bitZp,
   .byte "AND" .zp 3 .andZp,
   .byte "ROL" .zp 5 .rolZp,
   .und "UND_27" .und27,
   .imp "PLP" .imp 4 .plp,
   .byte "AND" .imm 2 .andImm,
   .imp "ROL" .acc 2 .rolAcc,
   .und "UND_2B" .und2B,
   .word "BIT" .abs 4 .bitAbs,
   .word "AND" .abs 4 .andAbs,
   .word "ROL" .abs 6 .rolAbs,
   .und "UND_2F" .und2F]

/-- R85, row 3x. -/
def dispatchRow3 : List Row :=
  [.byte "BMI" .rel 2 .bmi,
   Row.plusP (.byte "AND" .izy 5 .andIzy),
   .und "UND_32" .und32,
   .und "UND_33" .und33,
   .und "UND_34" .und34,
   .byte "AND" .zpx 4 .andZpx,
   .byte "ROL" .zpx 6 .rolZpx,
   .und "UND_37" .und37,
   .imp "SEC" .imp 2 .sec,
   Row.plusP (.word "AND" .aby 4 .andAby),
   .und "UND_3A" .und3A,
   .und "UND_3B" .und3B,
   .und "UND_3C" .und3C,
   Row.plusP (.word "AND" .abx 4 .andAbx),
   .word "ROL" .abx 7 .rolAbx,
   .und "UND_3F" .und3F]

/-- R85, row 4x. -/
def dispatchRow4 : List Row :=
  [.imp "RTI" .imp 6 .rti,
   .byte "EOR" .izx 6 .eorIzx,
   .und "UND_42" .und42,
   .und "UND_43" .und43,
   .und "UND_44" .und44,
   .byte "EOR" .zp 3 .eorZp,
   .byte "LSR" .zp 5 .lsrZp,
   .und "UND_47" .und47,
   .imp "PHA" .imp 3 .pha,
   .byte "EOR" .imm 2 .eorImm,
   .imp "LSR" .acc 2 .lsrAcc,
   .und "UND_4B" .und4B,
   .word "JMP" .abs 3 .jmpAbs,
   .word "EOR" .abs 4 .eorAbs,
   .word "LSR" .abs 6 .lsrAbs,
   .und "UND_4F" .und4F]

/-- R85, row 5x. -/
def dispatchRow5 : List Row :=
  [.byte "BVC" .rel 2 .bvc,
   Row.plusP (.byte "EOR" .izy 5 .eorIzy),
   .und "UND_52" .und52,
   .und "UND_53" .und53,
   .und "UND_54" .und54,
   .byte "EOR" .zpx 4 .eorZpx,
   .byte "LSR" .zpx 6 .lsrZpx,
   .und "UND_57" .und57,
   .imp "CLI" .imp 2 .cli,
   Row.plusP (.word "EOR" .aby 4 .eorAby),
   .und "UND_5A" .und5A,
   .und "UND_5B" .und5B,
   .und "UND_5C" .und5C,
   Row.plusP (.word "EOR" .abx 4 .eorAbx),
   .word "LSR" .abx 7 .lsrAbx,
   .und "UND_5F" .und5F]

/-- R85, row 6x. -/
def dispatchRow6 : List Row :=
  [.imp "RTS" .imp 6 .rts,
   .byte "ADC" .izx 6 .adcIzx,
   .und "UND_62" .und62,
   .und "UND_63" .und63,
   .und "UND_64" .und64,
   .byte "ADC" .zp 3 .adcZp,
   .byte "ROR" .zp 5 .rorZp,
   .und "UND_67" .und67,
   .imp "PLA" .imp 4 .pla,
   .byte "ADC" .imm 2 .adcImm,
   .imp "ROR" .acc 2 .rorAcc,
   .und "UND_6B" .und6B,
   .word "JMP" .ind 5 .jmpInd,
   .word "ADC" .abs 4 .adcAbs,
   .word "ROR" .abs 6 .rorAbs,
   .und "UND_6F" .und6F]

/-- R85, row 7x. -/
def dispatchRow7 : List Row :=
  [.byte "BVS" .rel 2 .bvs,
   Row.plusP (.byte "ADC" .izy 5 .adcIzy),
   .und "UND_72" .und72,
   .und "UND_73" .und73,
   .und "UND_74" .und74,
   .byte "ADC" .zpx 4 .adcZpx,
   .byte "ROR" .zpx 6 .rorZpx,
   .und "UND_77" .und77,
   .imp "SEI" .imp 2 .sei,
   Row.plusP (.word "ADC" .aby 4 .adcAby),
   .und "UND_7A" .und7A,
   .und "UND_7B" .und7B,
   .und "UND_7C" .und7C,
   Row.plusP (.word "ADC" .abx 4 .adcAbx),
   .word "ROR" .abx 7 .rorAbx,
   .und "UND_7F" .und7F]

/-- R85, row 8x. -/
def dispatchRow8 : List Row :=
  [.und "UND_80" .und80,
   .byte "STA" .izx 6 .staIzx,
   .und "UND_82" .und82,
   .und "UND_83" .und83,
   .byte "STY" .zp 3 .styZp,
   .byte "STA" .zp 3 .staZp,
   .byte "STX" .zp 3 .stxZp,
   .und "UND_87" .und87,
   .imp "DEY" .imp 2 .dey,
   .und "UND_89" .und89,
   .imp "TXA" .imp 2 .txa,
   .und "UND_8B" .und8B,
   .word "STY" .abs 4 .styAbs,
   .word "STA" .abs 4 .staAbs,
   .word "STX" .abs 4 .stxAbs,
   .und "UND_8F" .und8F]

/-- R85, row 9x. -/
def dispatchRow9 : List Row :=
  [.byte "BCC" .rel 2 .bcc,
   .byte "STA" .izy 6 .staIzy,
   .und "UND_92" .und92,
   .und "UND_93" .und93,
   .byte "STY" .zpx 4 .styZpx,
   .byte "STA" .zpx 4 .staZpx,
   .byte "STX" .zpy 4 .stxZpy,
   .und "UND_97" .und97,
   .imp "TYA" .imp 2 .tya,
   .word "STA" .aby 5 .staAby,
   .imp "TXS" .imp 2 .txs,
   .und "UND_9B" .und9B,
   .und "UND_9C" .und9C,
   .word "STA" .abx 5 .staAbx,
   .und "UND_9E" .und9E,
   .und "UND_9F" .und9F]

/-- R85, row Ax. -/
def dispatchRowA : List Row :=
  [.byte "LDY" .imm 2 .ldyImm,
   .byte "LDA" .izx 6 .ldaIzx,
   .byte "LDX" .imm 2 .ldxImm,
   .und "UND_A3" .undA3,
   .byte "LDY" .zp 3 .ldyZp,
   .byte "LDA" .zp 3 .ldaZp,
   .byte "LDX" .zp 3 .ldxZp,
   .und "UND_A7" .undA7,
   .imp "TAY" .imp 2 .tay,
   .byte "LDA" .imm 2 .ldaImm,
   .imp "TAX" .imp 2 .tax,
   .und "UND_AB" .undAB,
   .word "LDY" .abs 4 .ldyAbs,
   .word "LDA" .abs 4 .ldaAbs,
   .word "LDX" .abs 4 .ldxAbs,
   .und "UND_AF" .undAF]

/-- R85, row Bx. -/
def dispatchRowB : List Row :=
  [.byte "BCS" .rel 2 .bcs,
   Row.plusP (.byte "LDA" .izy 5 .ldaIzy),
   .und "UND_B2" .undB2,
   .und "UND_B3" .undB3,
   .byte "LDY" .zpx 4 .ldyZpx,
   .byte "LDA" .zpx 4 .ldaZpx,
   .byte "LDX" .zpy 4 .ldxZpy,
   .und "UND_B7" .undB7,
   .imp "CLV" .imp 2 .clv,
   Row.plusP (.word "LDA" .aby 4 .ldaAby),
   .imp "TSX" .imp 2 .tsx,
   .und "UND_BB" .undBB,
   Row.plusP (.word "LDY" .abx 4 .ldyAbx),
   Row.plusP (.word "LDA" .abx 4 .ldaAbx),
   Row.plusP (.word "LDX" .aby 4 .ldxAby),
   .und "UND_BF" .undBF]

/-- R85, row Cx. -/
def dispatchRowC : List Row :=
  [.byte "CPY" .imm 2 .cpyImm,
   .byte "CMP" .izx 6 .cmpIzx,
   .und "UND_C2" .undC2,
   .und "UND_C3" .undC3,
   .byte "CPY" .zp 3 .cpyZp,
   .byte "CMP" .zp 3 .cmpZp,
   .byte "DEC" .zp 5 .decZp,
   .und "UND_C7" .undC7,
   .imp "INY" .imp 2 .iny,
   .byte "CMP" .imm 2 .cmpImm,
   .imp "DEX" .imp 2 .dex,
   .und "UND_CB" .undCB,
   .word "CPY" .abs 4 .cpyAbs,
   .word "CMP" .abs 4 .cmpAbs,
   .word "DEC" .abs 6 .decAbs,
   .und "UND_CF" .undCF]

/-- R85, row Dx. -/
def dispatchRowD : List Row :=
  [.byte "BNE" .rel 2 .bne,
   Row.plusP (.byte "CMP" .izy 5 .cmpIzy),
   .und "UND_D2" .undD2,
   .und "UND_D3" .undD3,
   .und "UND_D4" .undD4,
   .byte "CMP" .zpx 4 .cmpZpx,
   .byte "DEC" .zpx 6 .decZpx,
   .und "UND_D7" .undD7,
   .imp "CLD" .imp 2 .cld,
   Row.plusP (.word "CMP" .aby 4 .cmpAby),
   .und "UND_DA" .undDA,
   .und "UND_DB" .undDB,
   .und "UND_DC" .undDC,
   Row.plusP (.word "CMP" .abx 4 .cmpAbx),
   .word "DEC" .abx 7 .decAbx,
   .und "UND_DF" .undDF]

/-- R85, row Ex. -/
def dispatchRowE : List Row :=
  [.byte "CPX" .imm 2 .cpxImm,
   .byte "SBC" .izx 6 .sbcIzx,
   .und "UND_E2" .undE2,
   .und "UND_E3" .undE3,
   .byte "CPX" .zp 3 .cpxZp,
   .byte "SBC" .zp 3 .sbcZp,
   .byte "INC" .zp 5 .incZp,
   .und "UND_E7" .undE7,
   .imp "INX" .imp 2 .inx,
   .byte "SBC" .imm 2 .sbcImm,
   .imp "NOP" .imp 2 .nop,
   .und "UND_EB" .undEB,
   .word "CPX" .abs 4 .cpxAbs,
   .word "SBC" .abs 4 .sbcAbs,
   .word "INC" .abs 6 .incAbs,
   .und "UND_EF" .undEF]

/-- R85, row Fx. -/
def dispatchRowF : List Row :=
  [.byte "BEQ" .rel 2 .beq,
   Row.plusP (.byte "SBC" .izy 5 .sbcIzy),
   .und "UND_F2" .undF2,
   .und "UND_F3" .undF3,
   .und "UND_F4" .undF4,
   .byte "SBC" .zpx 4 .sbcZpx,
   .byte "INC" .zpx 6 .incZpx,
   .und "UND_F7" .undF7,
   .imp "SED" .imp 2 .sed,
   Row.plusP (.word "SBC" .aby 4 .sbcAby),
   .und "UND_FA" .undFA,
   .und "UND_FB" .undFB,
   .und "UND_FC" .undFC,
   Row.plusP (.word "SBC" .abx 4 .sbcAbx),
   .word "INC" .abx 7 .incAbx,
   .und "UND_FF" .undFF]

/-- R80: the dispatch table. -/
def dispatchTable : List (List Row) :=
  [dispatchRow0, dispatchRow1, dispatchRow2, dispatchRow3, dispatchRow4, dispatchRow5, dispatchRow6, dispatchRow7,
   dispatchRow8, dispatchRow9, dispatchRowA, dispatchRowB, dispatchRowC, dispatchRowD, dispatchRowE, dispatchRowF]

/-- R80: the entry of an opcode byte. The table is total: it has 16 rows of 16, so the default is never read. -/
def dispatch (op : Byte) : Row := (dispatchTable.getD (op.toNat / 16) []).getD (op.toNat % 16) (.und "UND_FF" .undFF)

/-- Why a string of bytes is no instruction: it ends too soon. No opcode byte is refused (R80). -/
inductive DecodeError where
  /-- there is no opcode byte -/
  | noOpcode
  /-- the operand bytes of this opcode are not all there -/
  | missingOperand (op : Byte)
  deriving DecidableEq, Repr

/-- R80, R81: read one instruction from the front of a string of bytes; answer it with the bytes that follow it. -/
def decode : List Byte → Except DecodeError (Instr × List Byte)
  | [] => .error .noOpcode
  | op :: rest =>
    match (dispatch op).mode.length, rest with
    | 1, rest => .ok ((dispatch op).build 0 0, rest)
    | 2, b :: rest => .ok ((dispatch op).build b 0, rest)
    | 3, lo :: hi :: rest => .ok ((dispatch op).build lo hi, rest)
    | _, _ => .error (.missingOperand op)

/-- R84: the bytes of an instruction, the opcode byte first, then the operand, low byte first. -/
def encode : Instr → List Byte
  | .adcImm b => [0x69, b]
  | .adcZp b => [0x65, b]
  | .adcZpx b => [0x75, b]
  | .adcAbs w => [0x6D, lowByte w, highByte w]
  | .adcAbx w => [0x7D, lowByte w, highByte w]
  | .adcAby w => [0x79, lowByte w, highByte w]
  | .adcIzx b => [0x61, b]
  | .adcIzy b => [0x71, b]
  | .sbcImm b => [0xE9, b]
  | .sbcZp b => [0xE5, b]
  | .sbcZpx b => [0xF5, b]
  | .sbcAbs w => [0xED, lowByte w, highByte w]
  | .sbcAbx w => [0xFD, lowByte w, highByte w]
  | .sbcAby w => [0xF9, lowByte w, highByte w]
  | .sbcIzx b => [0xE1, b]
  | .sbcIzy b => [0xF1, b]
  | .incZp b => [0xE6, b]
  | .incZpx b => [0xF6, b]
  | .incAbs w => [0xEE, lowByte w, highByte w]
  | .incAbx w => [0xFE, lowByte w, highByte w]
  | .decZp b => [0xC6, b]
  | .decZpx b => [0xD6, b]
  | .decAbs w => [0xCE, lowByte w, highByte w]
  | .decAbx w => [0xDE, lowByte w, highByte w]
  | .inx => [0xE8]
  | .iny => [0xC8]
  | .dex => [0xCA]
  | .dey => [0x88]
  | .andImm b => [0x29, b]
  | .andZp b => [0x25, b]
  | .andZpx b => [0x35, b]
  | .andAbs w => [0x2D, lowByte w, highByte w]
  | .andAbx w => [0x3D, lowByte w, highByte w]
  | .andAby w => [0x39, lowByte w, highByte w]
  | .andIzx b => [0x21, b]
  | .andIzy b => [0x31, b]
  | .oraImm b => [0x09, b]
  | .oraZp b => [0x05, b]
  | .oraZpx b => [0x15, b]
  | .oraAbs w => [0x0D, lowByte w, highByte w]
  | .oraAbx w => [0x1D, lowByte w, highByte w]
  | .oraAby w => [0x19, lowByte w, highByte w]
  | .oraIzx b => [0x01, b]
  | .oraIzy b => [0x11, b]
  | .eorImm b => [0x49, b]
  | .eorZp b => [0x45, b]
  | .eorZpx b => [0x55, b]
  | .eorAbs w => [0x4D, lowByte w, highByte w]
  | .eorAbx w => [0x5D, lowByte w, highByte w]
  | .eorAby w => [0x59, lowByte w, highByte w]
  | .eorIzx b => [0x41, b]
  | .eorIzy b => [0x51, b]
  | .bitZp b => [0x24, b]
  | .bitAbs w => [0x2C, lowByte w, highByte w]
  | .cmpImm b => [0xC9, b]
  | .cmpZp b => [0xC5, b]
  | .cmpZpx b => [0xD5, b]
  | .cmpAbs w => [0xCD, lowByte w, highByte w]
  | .cmpAbx w => [0xDD, lowByte w, highByte w]
  | .cmpAby w => [0xD9, lowByte w, highByte w]
  | .cmpIzx b => [0xC1, b]
  | .cmpIzy b => [0xD1, b]
  | .cpxImm b => [0xE0, b]
  | .cpxZp b => [0xE4, b]
  | .cpxAbs w => [0xEC, lowByte w, highByte w]
  | .cpyImm b => [0xC0, b]
  | .cpyZp b => [0xC4, b]
  | .cpyAbs w => [0xCC, lowByte w, highByte w]
  | .aslAcc => [0x0A]
  | .aslZp b => [0x06, b]
  | .aslZpx b => [0x16, b]
  | .aslAbs w => [0x0E, lowByte w, highByte w]
  | .aslAbx w => [0x1E, lowByte w, highByte w]
  | .lsrAcc => [0x4A]
  | .lsrZp b => [0x46, b]
  | .lsrZpx b => [0x56, b]
  | .lsrAbs w => [0x4E, lowByte w, highByte w]
  | .lsrAbx w => [0x5E, lowByte w, highByte w]
  | .rolAcc => [0x2A]
  | .rolZp b => [0x26, b]
  | .rolZpx b => [0x36, b]
  | .rolAbs w => [0x2E, lowByte w, highByte w]
  | .rolAbx w => [0x3E, lowByte w, highByte w]
  | .rorAcc => [0x6A]
  | .rorZp b => [0x66, b]
  | .rorZpx b => [0x76, b]
  | .rorAbs w => [0x6E, lowByte w, highByte w]
  | .rorAbx w => [0x7E, lowByte w, highByte w]
  | .ldaImm b => [0xA9, b]
  | .ldaZp b => [0xA5, b]
  | .ldaZpx b => [0xB5, b]
  | .ldaAbs w => [0xAD, lowByte w, highByte w]
  | .ldaAbx w => [0xBD, lowByte w, highByte w]
  | .ldaAby w => [0xB9, lowByte w, highByte w]
  | .ldaIzx b => [0xA1, b]
  | .ldaIzy b => [0xB1, b]
  | .ldxImm b => [0xA2, b]
  | .ldxZp b => [0xA6, b]
  | .ldxZpy b => [0xB6, b]
  | .ldxAbs w => [0xAE, lowByte w, highByte w]
  | .ldxAby w => [0xBE, lowByte w, highByte w]
  | .ldyImm b => [0xA0, b]
  | .ldyZp b => [0xA4, b]
  | .ldyZpx b => [0xB4, b]
  | .ldyAbs w => [0xAC, lowByte w, highByte w]
  | .ldyAbx w => [0xBC, lowByte w, highByte w]
  | .staZp b => [0x85, b]
  | .staZpx b => [0x95, b]
  | .staAbs w => [0x8D, lowByte w, highByte w]
  | .staAbx w => [0x9D, lowByte w, highByte w]
  | .staAby w => [0x99, lowByte w, highByte w]
  | .staIzx b => [0x81, b]
  | .staIzy b => [0x91, b]
  | .stxZp b => [0x86, b]
  | .stxZpy b => [0x96, b]
  | .stxAbs w => [0x8E, lowByte w, highByte w]
  | .styZp b => [0x84, b]
  | .styZpx b => [0x94, b]
  | .styAbs w => [0x8C, lowByte w, highByte w]
  | .tax => [0xAA]
  | .tay => [0xA8]
  | .txa => [0x8A]
  | .tya => [0x98]
  | .tsx => [0xBA]
  | .txs => [0x9A]
  | .pha => [0x48]
  | .php => [0x08]
  | .pla => [0x68]
  | .plp => [0x28]
  | .clc => [0x18]
  | .sec => [0x38]
  | .cli => [0x58]
  | .sei => [0x78]
  | .cld => [0xD8]
  | .sed => [0xF8]
  | .clv => [0xB8]
  | .nop => [0xEA]
  | .jmpAbs w => [0x4C, lowByte w, highByte w]
  | .jmpInd w => [0x6C, lowByte w, highByte w]
  | .jsr w => [0x20, lowByte w, highByte w]
  | .rts => [0x60]
  | .bcc b => [0x90, b]
  | .bcs b => [0xB0, b]
  | .beq b => [0xF0, b]
  | .bne b => [0xD0, b]
  | .bmi b => [0x30, b]
  | .bpl b => [0x10, b]
  | .bvc b => [0x50, b]
  | .bvs b => [0x70, b]
  | .brk => [0x00]
  | .rti => [0x40]
  | .und02 => [0x02]
  | .und03 => [0x03]
  | .und04 => [0x04]
  | .und07 => [0x07]
  | .und0B => [0x0B]
  | .und0C => [0x0C]
  | .und0F => [0x0F]
  | .und12 => [0x12]
  | .und13 => [0x13]
  | .und14 => [0x14]
  | .und17 => [0x17]
  | .und1A => [0x1A]
  | .und1B => [0x1B]
  | .und1C => [0x1C]
  | .und1F => [0x1F]
  | .und22 => [0x22]
  | .und23 => [0x23]
  | .und27 => [0x27]
  | .und2B => [0x2B]
  | .und2F => [0x2F]
  | .und32 => [0x32]
  | .und33 => [0x33]
  | .und34 => [0x34]
  | .und37 => [0x37]
  | .und3A => [0x3A]
  | .und3B => [0x3B]
  | .und3C => [0x3C]
  | .und3F => [0x3F]
  | .und42 => [0x42]
  | .und43 => [0x43]
  | .und44 => [0x44]
  | .und47 => [0x47]
  | .und4B => [0x4B]
  | .und4F => [0x4F]
  | .und52 => [0x52]
  | .und53 => [0x53]
  | .und54 => [0x54]
  | .und57 => [0x57]
  | .und5A => [0x5A]
  | .und5B => [0x5B]
  | .und5C => [0x5C]
  | .und5F => [0x5F]
  | .und62 => [0x62]
  | .und63 => [0x63]
  | .und64 => [0x64]
  | .und67 => [0x67]
  | .und6B => [0x6B]
  | .und6F => [0x6F]
  | .und72 => [0x72]
  | .und73 => [0x73]
  | .und74 => [0x74]
  | .und77 => [0x77]
  | .und7A => [0x7A]
  | .und7B => [0x7B]
  | .und7C => [0x7C]
  | .und7F => [0x7F]
  | .und80 => [0x80]
  | .und82 => [0x82]
  | .und83 => [0x83]
  | .und87 => [0x87]
  | .und89 => [0x89]
  | .und8B => [0x8B]
  | .und8F => [0x8F]
  | .und92 => [0x92]
  | .und93 => [0x93]
  | .und97 => [0x97]
  | .und9B => [0x9B]
  | .und9C => [0x9C]
  | .und9E => [0x9E]
  | .und9F => [0x9F]
  | .undA3 => [0xA3]
  | .undA7 => [0xA7]
  | .undAB => [0xAB]
  | .undAF => [0xAF]
  | .undB2 => [0xB2]
  | .undB3 => [0xB3]
  | .undB7 => [0xB7]
  | .undBB => [0xBB]
  | .undBF => [0xBF]
  | .undC2 => [0xC2]
  | .undC3 => [0xC3]
  | .undC7 => [0xC7]
  | .undCB => [0xCB]
  | .undCF => [0xCF]
  | .undD2 => [0xD2]
  | .undD3 => [0xD3]
  | .undD4 => [0xD4]
  | .undD7 => [0xD7]
  | .undDA => [0xDA]
  | .undDB => [0xDB]
  | .undDC => [0xDC]
  | .undDF => [0xDF]
  | .undE2 => [0xE2]
  | .undE3 => [0xE3]
  | .undE7 => [0xE7]
  | .undEB => [0xEB]
  | .undEF => [0xEF]
  | .undF2 => [0xF2]
  | .undF3 => [0xF3]
  | .undF4 => [0xF4]
  | .undF7 => [0xF7]
  | .undFA => [0xFA]
  | .undFB => [0xFB]
  | .undFC => [0xFC]
  | .undFF => [0xFF]

/-- Byte `k` of an instruction given as one number `w` of `nbits` bits: byte 0 is the opcode byte, and every bit above `nbits`
is 0. -/
def tableByte (nbits w k : Nat) : Byte := BitVec.ofNat 8 ((w % 2 ^ nbits) / 2 ^ (8 * k))

/-- The instruction the decoder reads from the bytes of `w`, with zeros after them up to the longest length, 3. -/
def decodeTableWord (nbits w : Nat) : Option Instr :=
  match decode [tableByte nbits w 0, tableByte nbits w 1, tableByte nbits w 2] with
  | .ok (i, _) => some i
  | .error _ => none

end Sys2Proof
end

