-- ==== Sys2Proof/Machine/Flags.lean ====
section
/-! DEFINITION. Every flag computation and every data computation of the instruction set as functions on bytes and on P:
the status image (spec/10_state.md R27), SetZN (spec/46 R170), ADC and SBC in both modes (spec/41), Compare (spec/44),
the shifts (spec/45) and BIT (spec/43). -/

namespace Sys2Proof.Machine

/-- R27: `StatusByte(b) = {N, V, 1, b, D, I, Z, C}`. -/
def Flags.statusByte (b : Bool) (p : Flags) : Byte :=
  BitVec.ofBool p.n ++ BitVec.ofBool p.v ++ 1#1 ++ BitVec.ofBool b ++
    BitVec.ofBool p.d ++ BitVec.ofBool p.i ++ BitVec.ofBool p.z ++ BitVec.ofBool p.c

/-- R27: `FromStatusByte(v)`; bits 5 and 4 are ignored. -/
def Flags.ofStatusByte (v : Byte) : Flags :=
  { n := v.getLsbD 7, v := v.getLsbD 6, d := v.getLsbD 3, i := v.getLsbD 2, z := v.getLsbD 1, c := v.getLsbD 0 }

/-- R170: `SetZN(v)`. -/
def Flags.setZN (p : Flags) (v : Byte) : Flags := { p with z := v == 0, n := v.getLsbD 7 }

/-- R121: the 9-bit sum `zext_9(A) + zext_9(M) + zext_9(C)`. -/
def sum9 (a m : Byte) (c : Bool) : BitVec 9 := a.setWidth 9 + m.setWidth 9 + (BitVec.ofBool c).setWidth 9

/-- R121: binary ADC: the new A and the new flags. -/
def adcBinary (a m : Byte) (p : Flags) : Byte × Flags :=
  let sum := sum9 a m p.c
  let r : Byte := sum.setWidth 8
  (r, { p with c := sum.getLsbD 8,
               v := a.getLsbD 7 == m.getLsbD 7 && sum.getLsbD 7 != a.getLsbD 7 }.setZN r)

/-- R122: binary SBC: the new A and the new flags. -/
def sbcBinary (a m : Byte) (p : Flags) : Byte × Flags :=
  let sum := sum9 a (m ^^^ 0xFF) p.c
  let r : Byte := sum.setWidth 8
  (r, { p with c := sum.getLsbD 8,
               v := a.getLsbD 7 != m.getLsbD 7 && sum.getLsbD 7 != a.getLsbD 7 }.setZN r)

/-- R9: `v[3:0]` as an integer. -/
def lowDigit (v : Byte) : Nat := v.toNat % 16

/-- R123: `v & 0xF0` as an integer. -/
def highPart (v : Byte) : Nat := (v &&& 0xF0).toNat

/-- R123: the low digit sum of decimal ADC, corrected. -/
def adcLowDigit (a m : Byte) (c : Bool) : Nat :=
  let al := lowDigit a + lowDigit m + c.toNat
  if 0x0A ≤ al then (al + 0x06) % 16 + 0x10 else al

/-- R123: the intermediate `t` before the high-digit correction. -/
def adcIntermediate (a m : Byte) (c : Bool) : Nat := highPart a + highPart m + adcLowDigit a m c

/-- R123: `ts`, the same sum with the two high-digit terms taken as signed 8-bit numbers. -/
def adcSignedIntermediate (a m : Byte) (c : Bool) : Int :=
  (a &&& 0xF0).toInt + (m &&& 0xF0).toInt + (adcLowDigit a m c : Int)

/-- R123: ADC in decimal mode: the new A and the new flags. -/
def adcDecimal (a m : Byte) (p : Flags) : Byte × Flags :=
  let t := adcIntermediate a m p.c
  let ts := adcSignedIntermediate a m p.c
  let t' := if 0xA0 ≤ t then t + 0x60 else t
  (BitVec.ofNat 8 t',
    { p with n := t.testBit 7,
             v := decide (ts < -128) || decide (127 < ts),
             c := decide (0x100 ≤ t'),
             z := (sum9 a m p.c).setWidth 8 == 0#8 })

/-- R124: the low digit difference of decimal SBC, corrected. -/
def sbcLowDigit (a m : Byte) (c : Bool) : Int :=
  let al : Int := (lowDigit a : Int) - lowDigit m + c.toNat - 1
  if al < 0 then (al - 0x06) % 16 - 0x10 else al

/-- R124: SBC in decimal mode: the flags are those of binary SBC; only the value written to A differs. -/
def sbcDecimal (a m : Byte) (p : Flags) : Byte × Flags :=
  let t : Int := (highPart a : Int) - highPart m + sbcLowDigit a m p.c
  let t' := if t < 0 then t - 0x60 else t
  (BitVec.ofInt 8 t', (sbcBinary a m p).2)

/-- R121, R123: ADC; decimal exactly when P.D is set and the machine has `DECIMAL_MODE`. -/
def adcResult (decimalMode : Bool) (a m : Byte) (p : Flags) : Byte × Flags :=
  if p.d && decimalMode then adcDecimal a m p else adcBinary a m p

/-- R122, R124: SBC; decimal exactly when P.D is set and the machine has `DECIMAL_MODE`. -/
def sbcResult (decimalMode : Bool) (a m : Byte) (p : Flags) : Byte × Flags :=
  if p.d && decimalMode then sbcDecimal a m p else sbcBinary a m p

/-- R150: `Compare(r)`: the 9-bit `r - M + 256`. V, I and D are left. -/
def Flags.compare (p : Flags) (r m : Byte) : Flags :=
  let d : BitVec 9 := r.setWidth 9 + (m ^^^ 0xFF).setWidth 9 + 1
  { p with c := d.getLsbD 8, z := d.setWidth 8 == 0#8, n := d.getLsbD 7 }

/-- R144: BIT: Z from A & M, N and V from M itself. -/
def Flags.bitTest (p : Flags) (a m : Byte) : Flags :=
  { p with z := (a &&& m) == 0, n := m.getLsbD 7, v := m.getLsbD 6 }

/-- R161: `{v[6:0], 0}` and the bit shifted out. -/
def aslByte (v : Byte) : Byte × Bool := (v.extractLsb' 0 7 ++ 0#1, v.getLsbD 7)

/-- R162: `{0, v[7:1]}` and the bit shifted out. -/
def lsrByte (v : Byte) : Byte × Bool := (0#1 ++ v.extractLsb' 1 7, v.getLsbD 0)

/-- R163: `{v[6:0], c}` and the bit shifted out. -/
def rolByte (v : Byte) (c : Bool) : Byte × Bool := (v.extractLsb' 0 7 ++ BitVec.ofBool c, v.getLsbD 7)

/-- R164: `{c, v[7:1]}` and the bit shifted out. -/
def rorByte (v : Byte) (c : Bool) : Byte × Bool := (BitVec.ofBool c ++ v.extractLsb' 1 7, v.getLsbD 0)

end Sys2Proof.Machine
end

