-- ==== Sys2Proof/Machine/Ops.lean ====
section
/-! DEFINITION. The named operations: register updates, the memory trait `read8`/`write8` with the address decoding of the bus
(spec/20_memory.md R50, spec/50_bus_mapper.md R245), `Read16` (R53), the stack (spec/47 R190), TAKING AN INTERRUPT as one shared
operation (spec/60_exceptions.md R296) with the return from one (spec/49 R231), and `reset()` (spec/70 R330). -/

namespace Sys2Proof.Machine

open Sys2Proof.Config

/-! ### Register updates -/

def State.setA (s : State) (v : Byte) : State := { s with reg := { s.reg with a := v } }
def State.setX (s : State) (v : Byte) : State := { s with reg := { s.reg with x := v } }
def State.setY (s : State) (v : Byte) : State := { s with reg := { s.reg with y := v } }
def State.setS (s : State) (v : Byte) : State := { s with reg := { s.reg with s := v } }
def State.setPc (s : State) (v : Word) : State := { s with reg := { s.reg with pc := v } }
def State.setP (s : State) (p : Flags) : State := { s with reg := { s.reg with p := p } }

/-- R170: `SetZN(v)`. -/
def State.setZN (s : State) (v : Byte) : State := s.setP (s.reg.p.setZN v)

/-- R350: the step returns `n`. -/
def State.took (s : State) (n : Nat) : State := { s with cycles := n }

/-- R312: `Diag(e)`. -/
def State.emit (s : State) (e : DiagEvent) : State := { s with diag := s.diag ++ [e] }

/-! ### The memory trait -/

/-- R245: the classes a CPU address decodes to. -/
inductive Region where
  /-- R240: the flat RAM that stands in place of the reference bus -/
  | flat (i : Nat)
  | ram (i : Nat)
  | device (port : DevicePort) (reg : BitVec 5)
  | unmapped
  | wram (i : Nat)
  /-- the PRG window on reads, the mapper control registers on writes -/
  | prg
  deriving DecidableEq, Repr

/-- R240, R245: the class of a CPU address; "the first matching row applies". -/
def region (p : Params) (a : Word) : Region :=
  match p.bus with
  | .flatRam => .flat a.toNat
  | .reference =>
    if a.toNat < 0x2000 then .ram (a.toNat % ramSize)
    else if a.toNat < 0x4000 then .device .video (BitVec.ofNat 5 (a.toNat % 8))
    else if a.toNat < 0x4020 then .device .io (BitVec.ofNat 5 (a.toNat - 0x4000))
    else if a.toNat < 0x6000 then .unmapped
    else if a.toNat < 0x8000 then (if p.wramPresent then .wram (a.toNat - 0x6000) else .unmapped)
    else .prg

/-- R245: the byte at a CPU address where no device answers: what `read8` returns there, and all of its effect. At a device
register, where there is no memory, this is `OPEN_BUS` and stands for nothing (`State.read8` asks the oracle). -/
def State.peek (s : State) (a : Word) : Byte :=
  match region s.params a with
  | .flat i => s.bus.flat.get i
  | .ram i => s.bus.ram.get i
  | .wram i => s.bus.wram.get i
  | .prg => s.bus.prg.get (prgIndex s.bus.mapper s.params.prgBanks a)
  | .unmapped => s.params.openBus
  | .device _ _ => s.params.openBus

/-- R50, R245: `read8(a)`: the byte, and the state after the side effects of the read (R56). -/
def State.read8 (s : State) (a : Word) : Byte × State :=
  match region s.params a with
  | .device port reg => s.deviceRead port reg
  | _ => (s.peek a, s)

/-- R50, R245: `write8(a, v)`. -/
def State.write8 (s : State) (a : Word) (v : Byte) : State :=
  match region s.params a with
  | .flat i => { s with bus := { s.bus with flat := s.bus.flat.set i v } }
  | .ram i => { s with bus := { s.bus with ram := s.bus.ram.set i v } }
  | .wram i => { s with bus := { s.bus with wram := s.bus.wram.set i v } }
  | .device port reg => s.deviceWrite port reg v
  | .prg => s.mapperWrite a v
  | .unmapped => s

/-- R53: `Read16(a)`, low byte first. -/
def State.read16 (s : State) (a : Word) : Word × State :=
  let lo := s.read8 a
  let hi := lo.2.read8 (a + 1)
  (wordOf hi.1 lo.1, hi.2)

/-! ### The stack -/

/-- R24, R190: the address of the stack byte that S names. -/
def stackAddr (sp : Byte) : Word := wordOf stackPage sp

/-- R190: `Push(v)`: write, then decrement S. -/
def State.push (s : State) (v : Byte) : State :=
  let s' := s.write8 (stackAddr s.reg.s) v
  s'.setS (s'.reg.s - 1)

/-- R190: `Pull()`: increment S, then read. -/
def State.pull (s : State) : Byte × State :=
  let s' := s.setS (s.reg.s + 1)
  s'.read8 (stackAddr s'.reg.s)

/-- R190: a two-byte push, high byte first. -/
def State.pushWord (s : State) (w : Word) : State := (s.push (highByte w)).push (lowByte w)

/-- R190, R213: two pulls, low byte first. -/
def State.pullWord (s : State) : Word × State :=
  let lo := s.pull
  let hi := lo.2.pull
  (wordOf hi.1 lo.1, hi.2)

/-! ### Taking an interrupt, and the return from one -/

/-- R296: `Interrupt(vector, b)` with the return address `r`: push PC and the status image, set I, go where the vector says. -/
def State.interrupt (s : State) (vector : Word) (b : Bool) (r : Word) : State :=
  let s1 := s.pushWord r
  let s2 := s1.push (s1.reg.p.statusByte b)
  let s3 := s2.setP { s2.reg.p with i := true }
  let t := s3.read16 vector
  t.2.setPc t.1

/-- R231, R299: the return: pull P, then PC, without the +1 of RTS. -/
def State.returnFromInterrupt (s : State) : State :=
  let v := s.pull
  let s1 := v.2.setP (Flags.ofStatusByte v.1)
  let w := s1.pullWord
  w.2.setPc w.1

/-- R290 branch 1, R297: NMI service. -/
def State.serviceNmi (s : State) : State :=
  let s' : State := { s with intc := { s.intc with nmiPending := false } }
  ((s'.interrupt nmiVector false s.reg.pc).emit (.nmiServiced s.reg.pc)).took 7

/-- R290 branch 2, R298: IRQ service; `irq_line` is left. -/
def State.serviceIrq (s : State) : State :=
  ((s.interrupt irqVector false s.reg.pc).emit (.irqServiced s.reg.pc)).took 7

/-! ### Reset -/

/-- R330: `reset()`. -/
def State.cpuReset (s : State) : State :=
  let s' : State :=
    { s with reg := { a := 0x00, x := 0x00, y := 0x00, s := 0xFD, pc := s.reg.pc, p := Flags.atReset },
             intc := { s.intc with nmiPending := false } }
  let t := s'.read16 resetVector
  t.2.setPc t.1

end Sys2Proof.Machine
end

