-- ==== Sys2Proof/Machine/Operands.lean ====
section
/-! DEFINITION. The addressing-mode resolver (spec/40_addressing_modes.md R100 to R114) and the shapes the instructions have
around it: read, store, read-modify-write and branch (spec/40 R115). The operand bytes are in the instruction: the fetch has
read them and advanced PC past them (R100), so PC is here the address of the next sequential instruction. -/

namespace Sys2Proof.Machine

open Sys2Proof.Config

/-- R83: an operand in one of the modes that have operand bytes, with those bytes. -/
inductive Operand where
  | imm (b : Byte)
  | zp (b : Byte)
  | zpx (b : Byte)
  | zpy (b : Byte)
  | abs (w : Word)
  | abx (w : Word)
  | aby (w : Word)
  | ind (w : Word)
  | izx (b : Byte)
  | izy (b : Byte)
  | rel (b : Byte)
  deriving DecidableEq, Repr

/-- R100: what the resolver answers: the effective address, the page-cross bit, and the state after its memory reads. -/
structure Resolved where
  ea : Word
  crossed : Bool
  state : State
  deriving DecidableEq, Repr

/-- R104: an address in the zero page. -/
def zeroPage (b : Byte) : Word := wordOf 0x00 b

/-- R108, R114: whether two addresses lie on different pages. -/
def pagesDiffer (x y : Word) : Bool := highByte x != highByte y

/-- R111, R112: a zero-page pointer; its high byte is read at `(z + 1) & 0xFF`. -/
def State.readZeroPagePointer (s : State) (z : Byte) : Word × State :=
  let lo := s.read8 (zeroPage z)
  let hi := lo.2.read8 (zeroPage (z + 1))
  (wordOf hi.1 lo.1, hi.2)

/-- R110: the pointer of JMP indirect; its high byte is read on the same page. -/
def State.readJumpPointer (s : State) (ptr : Word) : Word × State :=
  let lo := s.read8 ptr
  let hi := lo.2.read8 (wordOf (highByte ptr) (lowByte ptr + 1))
  (wordOf hi.1 lo.1, hi.2)

/-- An address with an index register added (R108, R109, R112). -/
def indexed (base : Word) (index : Byte) (s : State) : Resolved :=
  let ea := base + index.setWidth 16
  ⟨ea, pagesDiffer ea base, s⟩

/-- R103 to R113: the resolver. -/
def resolve (o : Operand) (s : State) : Resolved :=
  match o with
  | .imm _ => ⟨s.reg.pc - 1, false, s⟩
  | .zp b => ⟨zeroPage b, false, s⟩
  | .zpx b => ⟨zeroPage (b + s.reg.x), false, s⟩
  | .zpy b => ⟨zeroPage (b + s.reg.y), false, s⟩
  | .abs w => ⟨w, false, s⟩
  | .abx w => indexed w s.reg.x s
  | .aby w => indexed w s.reg.y s
  | .ind w => let p := s.readJumpPointer w; ⟨p.1, false, p.2⟩
  | .izx b => let p := s.readZeroPagePointer (b + s.reg.x); ⟨p.1, false, p.2⟩
  | .izy b => let p := s.readZeroPagePointer b; indexed p.1 s.reg.y p.2
  | .rel b =>
    let ea := s.reg.pc + b.signExtend 16
    ⟨ea, pagesDiffer ea s.reg.pc, s⟩

/-- R11, R103: the operand `M`, read once at the effective address, and the state after that read. The immediate byte has been
read already, with the instruction (notes/assumptions/10.md). -/
def Resolved.fetchOperand (o : Operand) (r : Resolved) : Byte × State :=
  match o with
  | .imm b => (b, r.state)
  | _ => r.state.read8 r.ea

/-- R114: the extra cycle of a page crossing. -/
def Resolved.penalty (r : Resolved) : Nat := if r.crossed then 1 else 0

/-- R115, class "read": resolve, read `M`, run the operation. `penalised` says whether the opcode takes `+p` (R114). -/
def readInstr (cycles : Nat) (penalised : Bool) (o : Operand) (op : Byte → State → State) (s : State) :
    Host.Outcome State Fault Refusal :=
  let r := resolve o s
  let m := r.fetchOperand o
  .next ((op m.1 m.2).took (cycles + if penalised then r.penalty else 0))

/-- R115, class "store": resolve and write; the store does not read `ea` first (R174). -/
def storeInstr (cycles : Nat) (o : Operand) (v : Byte) (s : State) : Host.Outcome State Fault Refusal :=
  let r := resolve o s
  .next ((r.state.write8 r.ea v).took cycles)

/-- R115, class "read-modify-write": one read, the operation, one write, then SetZN of the result (R131, R160). -/
def rmwInstr (cycles : Nat) (o : Operand) (op : Byte → State → Byte × State) (s : State) :
    Host.Outcome State Fault Refusal :=
  let r := resolve o s
  let m := r.state.read8 r.ea
  let t := op m.1 m.2
  .next (((t.2.write8 r.ea t.1).setZN t.1).took cycles)

/-- R102, R160: the accumulator form of a read-modify-write operation. -/
def accInstr (cycles : Nat) (op : Byte → State → Byte × State) (s : State) : Host.Outcome State Fault Refusal :=
  let t := op s.reg.a s
  .next (((t.2.setA t.1).setZN t.1).took cycles)

/-- R101: an instruction without operand. -/
def impliedInstr (cycles : Nat) (op : State → State) (s : State) : Host.Outcome State Fault Refusal :=
  .next ((op s).took cycles)

/-- R214: the common rule of the eight branches. -/
def branchInstr (cond : Flags → Bool) (b : Byte) (s : State) : Host.Outcome State Fault Refusal :=
  let r := resolve (.rel b) s
  if cond s.reg.p then .next ((s.setPc r.ea).took (2 + 1 + r.penalty)) else .next (s.took 2)

end Sys2Proof.Machine
end

