-- ==== Sys2Proof/Machine/Arith.lean ====
section
/-! DEFINITION. The arithmetic instructions ADC and SBC (spec/41_arithmetic.md). -/

namespace Sys2Proof.Machine

/-- R121, R123: ADC with the operand byte `m`. -/
def adc (m : Byte) (s : State) : State :=
  let r := adcResult s.params.decimalMode s.reg.a m s.reg.p
  (s.setA r.1).setP r.2

/-- R121: ADC IMM, 0x69, 2 cycles. -/
def execAdcImm (b : Byte) (s : State) : Host.Outcome State Fault Refusal :=
  readInstr 2 false (.imm b) adc s

/-- R121: ADC ZP, 0x65, 3 cycles. -/
def execAdcZp (b : Byte) (s : State) : Host.Outcome State Fault Refusal :=
  readInstr 3 false (.zp b) adc s

/-- R121: ADC ZPX, 0x75, 4 cycles. -/
def execAdcZpx (b : Byte) (s : State) : Host.Outcome State Fault Refusal :=
  readInstr 4 false (.zpx b) adc s

/-- R121: ADC ABS, 0x6D, 4 cycles. -/
def execAdcAbs (w : Word) (s : State) : Host.Outcome State Fault Refusal :=
  readInstr 4 false (.abs w) adc s

/-- R121: ADC ABX, 0x7D, 4+p cycles. -/
def execAdcAbx (w : Word) (s : State) : Host.Outcome State Fault Refusal :=
  readInstr 4 true (.abx w) adc s

/-- R121: ADC ABY, 0x79, 4+p cycles. -/
def execAdcAby (w : Word) (s : State) : Host.Outcome State Fault Refusal :=
  readInstr 4 true (.aby w) adc s

/-- R121: ADC IZX, 0x61, 6 cycles. -/
def execAdcIzx (b : Byte) (s : State) : Host.Outcome State Fault Refusal :=
  readInstr 6 false (.izx b) adc s

/-- R121: ADC IZY, 0x71, 5+p cycles. -/
def execAdcIzy (b : Byte) (s : State) : Host.Outcome State Fault Refusal :=
  readInstr 5 true (.izy b) adc s

/-- R122, R124: SBC with the operand byte `m`. -/
def sbc (m : Byte) (s : State) : State :=
  let r := sbcResult s.params.decimalMode s.reg.a m s.reg.p
  (s.setA r.1).setP r.2

/-- R122: SBC IMM, 0xE9, 2 cycles. -/
def execSbcImm (b : Byte) (s : State) : Host.Outcome State Fault Refusal :=
  readInstr 2 false (.imm b) sbc s

/-- R122: SBC ZP, 0xE5, 3 cycles. -/
def execSbcZp (b : Byte) (s : State) : Host.Outcome State Fault Refusal :=
  readInstr 3 false (.zp b) sbc s

/-- R122: SBC ZPX, 0xF5, 4 cycles. -/
def execSbcZpx (b : Byte) (s : State) : Host.Outcome State Fault Refusal :=
  readInstr 4 false (.zpx b) sbc s

/-- R122: SBC ABS, 0xED, 4 cycles. -/
def execSbcAbs (w : Word) (s : State) : Host.Outcome State Fault Refusal :=
  readInstr 4 false (.abs w) sbc s

/-- R122: SBC ABX, 0xFD, 4+p cycles. -/
def execSbcAbx (w : Word) (s : State) : Host.Outcome State Fault Refusal :=
  readInstr 4 true (.abx w) sbc s

/-- R122: SBC ABY, 0xF9, 4+p cycles. -/
def execSbcAby (w : Word) (s : State) : Host.Outcome State Fault Refusal :=
  readInstr 4 true (.aby w) sbc s

/-- R122: SBC IZX, 0xE1, 6 cycles. -/
def execSbcIzx (b : Byte) (s : State) : Host.Outcome State Fault Refusal :=
  readInstr 6 false (.izx b) sbc s

/-- R122: SBC IZY, 0xF1, 5+p cycles. -/
def execSbcIzy (b : Byte) (s : State) : Host.Outcome State Fault Refusal :=
  readInstr 5 true (.izy b) sbc s

end Sys2Proof.Machine
end

