-- ==== Sys2Proof/Machine/Compare.lean ====
section
/-! DEFINITION. The compare instructions (spec/44_compare.md). Only C, Z and N change (R150). -/

namespace Sys2Proof.Machine

/-- R151: `Compare(A)`. -/
def cmpA (m : Byte) (s : State) : State :=
  s.setP (s.reg.p.compare s.reg.a m)

/-- R151: CMP IMM, 0xC9, 2 cycles. -/
def execCmpImm (b : Byte) (s : State) : Host.Outcome State Fault Refusal :=
  readInstr 2 false (.imm b) cmpA s

/-- R151: CMP ZP, 0xC5, 3 cycles. -/
def execCmpZp (b : Byte) (s : State) : Host.Outcome State Fault Refusal :=
  readInstr 3 false (.zp b) cmpA s

/-- R151: CMP ZPX, 0xD5, 4 cycles. -/
def execCmpZpx (b : Byte) (s : State) : Host.Outcome State Fault Refusal :=
  readInstr 4 false (.zpx b) cmpA s

/-- R151: CMP ABS, 0xCD, 4 cycles. -/
def execCmpAbs (w : Word) (s : State) : Host.Outcome State Fault Refusal :=
  readInstr 4 false (.abs w) cmpA s

/-- R151: CMP ABX, 0xDD, 4+p cycles. -/
def execCmpAbx (w : Word) (s : State) : Host.Outcome State Fault Refusal :=
  readInstr 4 true (.abx w) cmpA s

/-- R151: CMP ABY, 0xD9, 4+p cycles. -/
def execCmpAby (w : Word) (s : State) : Host.Outcome State Fault Refusal :=
  readInstr 4 true (.aby w) cmpA s

/-- R151: CMP IZX, 0xC1, 6 cycles. -/
def execCmpIzx (b : Byte) (s : State) : Host.Outcome State Fault Refusal :=
  readInstr 6 false (.izx b) cmpA s

/-- R151: CMP IZY, 0xD1, 5+p cycles. -/
def execCmpIzy (b : Byte) (s : State) : Host.Outcome State Fault Refusal :=
  readInstr 5 true (.izy b) cmpA s

/-- R152: `Compare(X)`. -/
def cmpX (m : Byte) (s : State) : State :=
  s.setP (s.reg.p.compare s.reg.x m)

/-- R152: CPX IMM, 0xE0, 2 cycles. -/
def execCpxImm (b : Byte) (s : State) : Host.Outcome State Fault Refusal :=
  readInstr 2 false (.imm b) cmpX s

/-- R152: CPX ZP, 0xE4, 3 cycles. -/
def execCpxZp (b : Byte) (s : State) : Host.Outcome State Fault Refusal :=
  readInstr 3 false (.zp b) cmpX s

/-- R152: CPX ABS, 0xEC, 4 cycles. -/
def execCpxAbs (w : Word) (s : State) : Host.Outcome State Fault Refusal :=
  readInstr 4 false (.abs w) cmpX s

/-- R153: `Compare(Y)`. -/
def cmpY (m : Byte) (s : State) : State :=
  s.setP (s.reg.p.compare s.reg.y m)

/-- R153: CPY IMM, 0xC0, 2 cycles. -/
def execCpyImm (b : Byte) (s : State) : Host.Outcome State Fault Refusal :=
  readInstr 2 false (.imm b) cmpY s

/-- R153: CPY ZP, 0xC4, 3 cycles. -/
def execCpyZp (b : Byte) (s : State) : Host.Outcome State Fault Refusal :=
  readInstr 3 false (.zp b) cmpY s

/-- R153: CPY ABS, 0xCC, 4 cycles. -/
def execCpyAbs (w : Word) (s : State) : Host.Outcome State Fault Refusal :=
  readInstr 4 false (.abs w) cmpY s

end Sys2Proof.Machine
end

