-- ==== Sys2Proof/Machine/Control.lean ====
section
/-! DEFINITION. Jumps, subroutines and branches (spec/48_control_flow.md). -/

namespace Sys2Proof.Machine

/-- R210, R211: go to the effective address, with the state after the mode's reads. -/
def jumpTo (cycles : Nat) (o : Operand) (s : State) : Host.Outcome State Fault Refusal :=
  let r := resolve o s
  .next ((r.state.setPc r.ea).took cycles)

/-- R210: JMP ABS, 0x4C, 3 cycles. -/
def execJmpAbs (w : Word) (s : State) : Host.Outcome State Fault Refusal :=
  jumpTo 3 (.abs w) s

/-- R211: JMP IND, 0x6C, 5 cycles. -/
def execJmpInd (w : Word) (s : State) : Host.Outcome State Fault Refusal :=
  jumpTo 5 (.ind w) s

/-- R212: JSR ABS, 0x20, 6 cycles. -/
def execJsr (w : Word) (s : State) : Host.Outcome State Fault Refusal :=
  .next (((s.pushWord (s.reg.pc - 1)).setPc w).took 6)

/-- R213: pull the return address and add 1. -/
def returnFromSubroutine (s : State) : State :=
  let w := s.pullWord
  w.2.setPc (w.1 + 1)

/-- R213: RTS IMP, 0x60, 6 cycles. -/
def execRts (s : State) : Host.Outcome State Fault Refusal :=
  impliedInstr 6 returnFromSubroutine s

/-- R215: BCC REL, 0x90, 2+b cycles. -/
def execBcc (b : Byte) (s : State) : Host.Outcome State Fault Refusal :=
  branchInstr (fun p => !p.c) b s

/-- R216: BCS REL, 0xB0, 2+b cycles. -/
def execBcs (b : Byte) (s : State) : Host.Outcome State Fault Refusal :=
  branchInstr (fun p => p.c) b s

/-- R217: BEQ REL, 0xF0, 2+b cycles. -/
def execBeq (b : Byte) (s : State) : Host.Outcome State Fault Refusal :=
  branchInstr (fun p => p.z) b s

/-- R218: BNE REL, 0xD0, 2+b cycles. -/
def execBne (b : Byte) (s : State) : Host.Outcome State Fault Refusal :=
  branchInstr (fun p => !p.z) b s

/-- R219: BMI REL, 0x30, 2+b cycles. -/
def execBmi (b : Byte) (s : State) : Host.Outcome State Fault Refusal :=
  branchInstr (fun p => p.n) b s

/-- R220: BPL REL, 0x10, 2+b cycles. -/
def execBpl (b : Byte) (s : State) : Host.Outcome State Fault Refusal :=
  branchInstr (fun p => !p.n) b s

/-- R221: BVC REL, 0x50, 2+b cycles. -/
def execBvc (b : Byte) (s : State) : Host.Outcome State Fault Refusal :=
  branchInstr (fun p => !p.v) b s

/-- R222: BVS REL, 0x70, 2+b cycles. -/
def execBvs (b : Byte) (s : State) : Host.Outcome State Fault Refusal :=
  branchInstr (fun p => p.v) b s

end Sys2Proof.Machine
end

