-- ==== Sys2Proof/Machine/IncDec.lean ====
section
/-! DEFINITION. Increment and decrement (spec/42_incdec.md). None of the six touches carry (R130). -/

namespace Sys2Proof.Machine

/-- R131: the byte plus one. -/
def inc (v : Byte) (s : State) : Byte × State :=
  (v + 1, s)

/-- R131: INC ZP, 0xE6, 5 cycles. -/
def execIncZp (b : Byte) (s : State) : Host.Outcome State Fault Refusal :=
  rmwInstr 5 (.zp b) inc s

/-- R131: INC ZPX, 0xF6, 6 cycles. -/
def execIncZpx (b : Byte) (s : State) : Host.Outcome State Fault Refusal :=
  rmwInstr 6 (.zpx b) inc s

/-- R131: INC ABS, 0xEE, 6 cycles. -/
def execIncAbs (w : Word) (s : State) : Host.Outcome State Fault Refusal :=
  rmwInstr 6 (.abs w) inc s

/-- R131: INC ABX, 0xFE, 7 cycles. -/
def execIncAbx (w : Word) (s : State) : Host.Outcome State Fault Refusal :=
  rmwInstr 7 (.abx w) inc s

/-- R132: the byte minus one. -/
def dec (v : Byte) (s : State) : Byte × State :=
  (v - 1, s)

/-- R132: DEC ZP, 0xC6, 5 cycles. -/
def execDecZp (b : Byte) (s : State) : Host.Outcome State Fault Refusal :=
  rmwInstr 5 (.zp b) dec s

/-- R132: DEC ZPX, 0xD6, 6 cycles. -/
def execDecZpx (b : Byte) (s : State) : Host.Outcome State Fault Refusal :=
  rmwInstr 6 (.zpx b) dec s

/-- R132: DEC ABS, 0xCE, 6 cycles. -/
def execDecAbs (w : Word) (s : State) : Host.Outcome State Fault Refusal :=
  rmwInstr 6 (.abs w) dec s

/-- R132: DEC ABX, 0xDE, 7 cycles. -/
def execDecAbx (w : Word) (s : State) : Host.Outcome State Fault Refusal :=
  rmwInstr 7 (.abx w) dec s

/-- R133: INX IMP, 0xE8, 2 cycles. -/
def execInx (s : State) : Host.Outcome State Fault Refusal :=
  impliedInstr 2 (fun s => (s.setX (s.reg.x + 1)).setZN (s.reg.x + 1)) s

/-- R134: INY IMP, 0xC8, 2 cycles. -/
def execIny (s : State) : Host.Outcome State Fault Refusal :=
  impliedInstr 2 (fun s => (s.setY (s.reg.y + 1)).setZN (s.reg.y + 1)) s

/-- R135: DEX IMP, 0xCA, 2 cycles. -/
def execDex (s : State) : Host.Outcome State Fault Refusal :=
  impliedInstr 2 (fun s => (s.setX (s.reg.x - 1)).setZN (s.reg.x - 1)) s

/-- R136: DEY IMP, 0x88, 2 cycles. -/
def execDey (s : State) : Host.Outcome State Fault Refusal :=
  impliedInstr 2 (fun s => (s.setY (s.reg.y - 1)).setZN (s.reg.y - 1)) s

end Sys2Proof.Machine
end

