-- ==== Sys2Proof/Machine/LoadStore.lean ====
section
/-! DEFINITION. Loads, stores and register transfers (spec/46_load_store_transfer.md). -/

namespace Sys2Proof.Machine

/-- R171: LDA: A takes the operand byte, and Z and N follow it. -/
def lda (m : Byte) (s : State) : State :=
  (s.setA m).setZN m

/-- R171: LDA IMM, 0xA9, 2 cycles. -/
def execLdaImm (b : Byte) (s : State) : Host.Outcome State Fault Refusal :=
  readInstr 2 false (.imm b) lda s

/-- R171: LDA ZP, 0xA5, 3 cycles. -/
def execLdaZp (b : Byte) (s : State) : Host.Outcome State Fault Refusal :=
  readInstr 3 false (.zp b) lda s

/-- R171: LDA ZPX, 0xB5, 4 cycles. -/
def execLdaZpx (b : Byte) (s : State) : Host.Outcome State Fault Refusal :=
  readInstr 4 false (.zpx b) lda s

/-- R171: LDA ABS, 0xAD, 4 cycles. -/
def execLdaAbs (w : Word) (s : State) : Host.Outcome State Fault Refusal :=
  readInstr 4 false (.abs w) lda s

/-- R171: LDA ABX, 0xBD, 4+p cycles. -/
def execLdaAbx (w : Word) (s : State) : Host.Outcome State Fault Refusal :=
  readInstr 4 true (.abx w) lda s

/-- R171: LDA ABY, 0xB9, 4+p cycles. -/
def execLdaAby (w : Word) (s : State) : Host.Outcome State Fault Refusal :=
  readInstr 4 true (.aby w) lda s

/-- R171: LDA IZX, 0xA1, 6 cycles. -/
def execLdaIzx (b : Byte) (s : State) : Host.Outcome State Fault Refusal :=
  readInstr 6 false (.izx b) lda s

/-- R171: LDA IZY, 0xB1, 5+p cycles. -/
def execLdaIzy (b : Byte) (s : State) : Host.Outcome State Fault Refusal :=
  readInstr 5 true (.izy b) lda s

/-- R172: LDX: X takes the operand byte. -/
def ldx (m : Byte) (s : State) : State :=
  (s.setX m).setZN m

/-- R172: LDX IMM, 0xA2, 2 cycles. -/
def execLdxImm (b : Byte) (s : State) : Host.Outcome State Fault Refusal :=
  readInstr 2 false (.imm b) ldx s

/-- R172: LDX ZP, 0xA6, 3 cycles. -/
def execLdxZp (b : Byte) (s : State) : Host.Outcome State Fault Refusal :=
  readInstr 3 false (.zp b) ldx s

/-- R172: LDX ZPY, 0xB6, 4 cycles. -/
def execLdxZpy (b : Byte) (s : State) : Host.Outcome State Fault Refusal :=
  readInstr 4 false (.zpy b) ldx s

/-- R172: LDX ABS, 0xAE, 4 cycles. -/
def execLdxAbs (w : Word) (s : State) : Host.Outcome State Fault Refusal :=
  readInstr 4 false (.abs w) ldx s

/-- R172: LDX ABY, 0xBE, 4+p cycles. -/
def execLdxAby (w : Word) (s : State) : Host.Outcome State Fault Refusal :=
  readInstr 4 true (.aby w) ldx s

/-- R173: LDY: Y takes the operand byte. -/
def ldy (m : Byte) (s : State) : State :=
  (s.setY m).setZN m

/-- R173: LDY IMM, 0xA0, 2 cycles. -/
def execLdyImm (b : Byte) (s : State) : Host.Outcome State Fault Refusal :=
  readInstr 2 false (.imm b) ldy s

/-- R173: LDY ZP, 0xA4, 3 cycles. -/
def execLdyZp (b : Byte) (s : State) : Host.Outcome State Fault Refusal :=
  readInstr 3 false (.zp b) ldy s

/-- R173: LDY ZPX, 0xB4, 4 cycles. -/
def execLdyZpx (b : Byte) (s : State) : Host.Outcome State Fault Refusal :=
  readInstr 4 false (.zpx b) ldy s

/-- R173: LDY ABS, 0xAC, 4 cycles. -/
def execLdyAbs (w : Word) (s : State) : Host.Outcome State Fault Refusal :=
  readInstr 4 false (.abs w) ldy s

/-- R173: LDY ABX, 0xBC, 4+p cycles. -/
def execLdyAbx (w : Word) (s : State) : Host.Outcome State Fault Refusal :=
  readInstr 4 true (.abx w) ldy s

/-- R174: STA ZP, 0x85, 3 cycles. -/
def execStaZp (b : Byte) (s : State) : Host.Outcome State Fault Refusal :=
  storeInstr 3 (.zp b) s.reg.a s

/-- R174: STA ZPX, 0x95, 4 cycles. -/
def execStaZpx (b : Byte) (s : State) : Host.Outcome State Fault Refusal :=
  storeInstr 4 (.zpx b) s.reg.a s

/-- R174: STA ABS, 0x8D, 4 cycles. -/
def execStaAbs (w : Word) (s : State) : Host.Outcome State Fault Refusal :=
  storeInstr 4 (.abs w) s.reg.a s

/-- R174: STA ABX, 0x9D, 5 cycles. -/
def execStaAbx (w : Word) (s : State) : Host.Outcome State Fault Refusal :=
  storeInstr 5 (.abx w) s.reg.a s

/-- R174: STA ABY, 0x99, 5 cycles. -/
def execStaAby (w : Word) (s : State) : Host.Outcome State Fault Refusal :=
  storeInstr 5 (.aby w) s.reg.a s

/-- R174: STA IZX, 0x81, 6 cycles. -/
def execStaIzx (b : Byte) (s : State) : Host.Outcome State Fault Refusal :=
  storeInstr 6 (.izx b) s.reg.a s

/-- R174: STA IZY, 0x91, 6 cycles. -/
def execStaIzy (b : Byte) (s : State) : Host.Outcome State Fault Refusal :=
  storeInstr 6 (.izy b) s.reg.a s

/-- R175: STX ZP, 0x86, 3 cycles. -/
def execStxZp (b : Byte) (s : State) : Host.Outcome State Fault Refusal :=
  storeInstr 3 (.zp b) s.reg.x s

/-- R175: STX ZPY, 0x96, 4 cycles. -/
def execStxZpy (b : Byte) (s : State) : Host.Outcome State Fault Refusal :=
  storeInstr 4 (.zpy b) s.reg.x s

/-- R175: STX ABS, 0x8E, 4 cycles. -/
def execStxAbs (w : Word) (s : State) : Host.Outcome State Fault Refusal :=
  storeInstr 4 (.abs w) s.reg.x s

/-- R176: STY ZP, 0x84, 3 cycles. -/
def execStyZp (b : Byte) (s : State) : Host.Outcome State Fault Refusal :=
  storeInstr 3 (.zp b) s.reg.y s

/-- R176: STY ZPX, 0x94, 4 cycles. -/
def execStyZpx (b : Byte) (s : State) : Host.Outcome State Fault Refusal :=
  storeInstr 4 (.zpx b) s.reg.y s

/-- R176: STY ABS, 0x8C, 4 cycles. -/
def execStyAbs (w : Word) (s : State) : Host.Outcome State Fault Refusal :=
  storeInstr 4 (.abs w) s.reg.y s

/-- R177: TAX IMP, 0xAA, 2 cycles. -/
def execTax (s : State) : Host.Outcome State Fault Refusal :=
  impliedInstr 2 (fun s => (s.setX s.reg.a).setZN s.reg.a) s

/-- R178: TAY IMP, 0xA8, 2 cycles. -/
def execTay (s : State) : Host.Outcome State Fault Refusal :=
  impliedInstr 2 (fun s => (s.setY s.reg.a).setZN s.reg.a) s

/-- R179: TXA IMP, 0x8A, 2 cycles. -/
def execTxa (s : State) : Host.Outcome State Fault Refusal :=
  impliedInstr 2 (fun s => (s.setA s.reg.x).setZN s.reg.x) s

/-- R180: TYA IMP, 0x98, 2 cycles. -/
def execTya (s : State) : Host.Outcome State Fault Refusal :=
  impliedInstr 2 (fun s => (s.setA s.reg.y).setZN s.reg.y) s

/-- R181: TSX IMP, 0xBA, 2 cycles. -/
def execTsx (s : State) : Host.Outcome State Fault Refusal :=
  impliedInstr 2 (fun s => (s.setX s.reg.s).setZN s.reg.s) s

/-- R182: TXS IMP, 0x9A, 2 cycles. -/
def execTxs (s : State) : Host.Outcome State Fault Refusal :=
  impliedInstr 2 (fun s => s.setS s.reg.x) s

end Sys2Proof.Machine
end

