-- ==== Sys2Proof/Machine/Logic.lean ====
section
/-! DEFINITION. The logical instructions (spec/43_logical.md). AND, ORA and EOR leave C and V (R140). -/

namespace Sys2Proof.Machine

/-- R170: A takes a value, and Z and N follow it. -/
def loadA (v : Byte) (s : State) : State :=
  (s.setA v).setZN v

/-- R141: AND. -/
def andA (m : Byte) (s : State) : State :=
  loadA (s.reg.a &&& m) s

/-- R141: AND IMM, 0x29, 2 cycles. -/
def execAndImm (b : Byte) (s : State) : Host.Outcome State Fault Refusal :=
  readInstr 2 false (.imm b) andA s

/-- R141: AND ZP, 0x25, 3 cycles. -/
def execAndZp (b : Byte) (s : State) : Host.Outcome State Fault Refusal :=
  readInstr 3 false (.zp b) andA s

/-- R141: AND ZPX, 0x35, 4 cycles. -/
def execAndZpx (b : Byte) (s : State) : Host.Outcome State Fault Refusal :=
  readInstr 4 false (.zpx b) andA s

/-- R141: AND ABS, 0x2D, 4 cycles. -/
def execAndAbs (w : Word) (s : State) : Host.Outcome State Fault Refusal :=
  readInstr 4 false (.abs w) andA s

/-- R141: AND ABX, 0x3D, 4+p cycles. -/
def execAndAbx (w : Word) (s : State) : Host.Outcome State Fault Refusal :=
  readInstr 4 true (.abx w) andA s

/-- R141: AND ABY, 0x39, 4+p cycles. -/
def execAndAby (w : Word) (s : State) : Host.Outcome State Fault Refusal :=
  readInstr 4 true (.aby w) andA s

/-- R141: AND IZX, 0x21, 6 cycles. -/
def execAndIzx (b : Byte) (s : State) : Host.Outcome State Fault Refusal :=
  readInstr 6 false (.izx b) andA s

/-- R141: AND IZY, 0x31, 5+p cycles. -/
def execAndIzy (b : Byte) (s : State) : Host.Outcome State Fault Refusal :=
  readInstr 5 true (.izy b) andA s

/-- R142: ORA. -/
def oraA (m : Byte) (s : State) : State :=
  loadA (s.reg.a ||| m) s

/-- R142: ORA IMM, 0x09, 2 cycles. -/
def execOraImm (b : Byte) (s : State) : Host.Outcome State Fault Refusal :=
  readInstr 2 false (.imm b) oraA s

/-- R142: ORA ZP, 0x05, 3 cycles. -/
def execOraZp (b : Byte) (s : State) : Host.Outcome State Fault Refusal :=
  readInstr 3 false (.zp b) oraA s

/-- R142: ORA ZPX, 0x15, 4 cycles. -/
def execOraZpx (b : Byte) (s : State) : Host.Outcome State Fault Refusal :=
  readInstr 4 false (.zpx b) oraA s

/-- R142: ORA ABS, 0x0D, 4 cycles. -/
def execOraAbs (w : Word) (s : State) : Host.Outcome State Fault Refusal :=
  readInstr 4 false (.abs w) oraA s

/-- R142: ORA ABX, 0x1D, 4+p cycles. -/
def execOraAbx (w : Word) (s : State) : Host.Outcome State Fault Refusal :=
  readInstr 4 true (.abx w) oraA s

/-- R142: ORA ABY, 0x19, 4+p cycles. -/
def execOraAby (w : Word) (s : State) : Host.Outcome State Fault Refusal :=
  readInstr 4 true (.aby w) oraA s

/-- R142: ORA IZX, 0x01, 6 cycles. -/
def execOraIzx (b : Byte) (s : State) : Host.Outcome State Fault Refusal :=
  readInstr 6 false (.izx b) oraA s

/-- R142: ORA IZY, 0x11, 5+p cycles. -/
def execOraIzy (b : Byte) (s : State) : Host.Outcome State Fault Refusal :=
  readInstr 5 true (.izy b) oraA s

/-- R143: EOR. -/
def eorA (m : Byte) (s : State) : State :=
  loadA (s.reg.a ^^^ m) s

/-- R143: EOR IMM, 0x49, 2 cycles. -/
def execEorImm (b : Byte) (s : State) : Host.Outcome State Fault Refusal :=
  readInstr 2 false (.imm b) eorA s

/-- R143: EOR ZP, 0x45, 3 cycles. -/
def execEorZp (b : Byte) (s : State) : Host.Outcome State Fault Refusal :=
  readInstr 3 false (.zp b) eorA s

/-- R143: EOR ZPX, 0x55, 4 cycles. -/
def execEorZpx (b : Byte) (s : State) : Host.Outcome State Fault Refusal :=
  readInstr 4 false (.zpx b) eorA s

/-- R143: EOR ABS, 0x4D, 4 cycles. -/
def execEorAbs (w : Word) (s : State) : Host.Outcome State Fault Refusal :=
  readInstr 4 false (.abs w) eorA s

/-- R143: EOR ABX, 0x5D, 4+p cycles. -/
def execEorAbx (w : Word) (s : State) : Host.Outcome State Fault Refusal :=
  readInstr 4 true (.abx w) eorA s

/-- R143: EOR ABY, 0x59, 4+p cycles. -/
def execEorAby (w : Word) (s : State) : Host.Outcome State Fault Refusal :=
  readInstr 4 true (.aby w) eorA s

/-- R143: EOR IZX, 0x41, 6 cycles. -/
def execEorIzx (b : Byte) (s : State) : Host.Outcome State Fault Refusal :=
  readInstr 6 false (.izx b) eorA s

/-- R143: EOR IZY, 0x51, 5+p cycles. -/
def execEorIzy (b : Byte) (s : State) : Host.Outcome State Fault Refusal :=
  readInstr 5 true (.izy b) eorA s

/-- R144: BIT. A is not written. -/
def bitA (m : Byte) (s : State) : State :=
  s.setP (s.reg.p.bitTest s.reg.a m)

/-- R144: BIT ZP, 0x24, 3 cycles. -/
def execBitZp (b : Byte) (s : State) : Host.Outcome State Fault Refusal :=
  readInstr 3 false (.zp b) bitA s

/-- R144: BIT ABS, 0x2C, 4 cycles. -/
def execBitAbs (w : Word) (s : State) : Host.Outcome State Fault Refusal :=
  readInstr 4 false (.abs w) bitA s

end Sys2Proof.Machine
end

