-- ==== Sys2Proof/Machine/Shift.lean ====
section
/-! DEFINITION. Shifts and rotates (spec/45_shift_rotate.md). The carry is written before the result is stored (R161 to R164). -/

namespace Sys2Proof.Machine

/-- R161: ASL: the result, and the state with the new carry. -/
def asl (v : Byte) (s : State) : Byte × State :=
  ((aslByte v).1, s.setP { s.reg.p with c := (aslByte v).2 })

/-- R161: ASL ACC, 0x0A, 2 cycles. -/
def execAslAcc (s : State) : Host.Outcome State Fault Refusal :=
  accInstr 2 asl s

/-- R161: ASL ZP, 0x06, 5 cycles. -/
def execAslZp (b : Byte) (s : State) : Host.Outcome State Fault Refusal :=
  rmwInstr 5 (.zp b) asl s

/-- R161: ASL ZPX, 0x16, 6 cycles. -/
def execAslZpx (b : Byte) (s : State) : Host.Outcome State Fault Refusal :=
  rmwInstr 6 (.zpx b) asl s

/-- R161: ASL ABS, 0x0E, 6 cycles. -/
def execAslAbs (w : Word) (s : State) : Host.Outcome State Fault Refusal :=
  rmwInstr 6 (.abs w) asl s

/-- R161: ASL ABX, 0x1E, 7 cycles. -/
def execAslAbx (w : Word) (s : State) : Host.Outcome State Fault Refusal :=
  rmwInstr 7 (.abx w) asl s

/-- R162: LSR. -/
def lsr (v : Byte) (s : State) : Byte × State :=
  ((lsrByte v).1, s.setP { s.reg.p with c := (lsrByte v).2 })

/-- R162: LSR ACC, 0x4A, 2 cycles. -/
def execLsrAcc (s : State) : Host.Outcome State Fault Refusal :=
  accInstr 2 lsr s

/-- R162: LSR ZP, 0x46, 5 cycles. -/
def execLsrZp (b : Byte) (s : State) : Host.Outcome State Fault Refusal :=
  rmwInstr 5 (.zp b) lsr s

/-- R162: LSR ZPX, 0x56, 6 cycles. -/
def execLsrZpx (b : Byte) (s : State) : Host.Outcome State Fault Refusal :=
  rmwInstr 6 (.zpx b) lsr s

/-- R162: LSR ABS, 0x4E, 6 cycles. -/
def execLsrAbs (w : Word) (s : State) : Host.Outcome State Fault Refusal :=
  rmwInstr 6 (.abs w) lsr s

/-- R162: LSR ABX, 0x5E, 7 cycles. -/
def execLsrAbx (w : Word) (s : State) : Host.Outcome State Fault Refusal :=
  rmwInstr 7 (.abx w) lsr s

/-- R163: ROL, from the old carry. -/
def rol (v : Byte) (s : State) : Byte × State :=
  ((rolByte v s.reg.p.c).1, s.setP { s.reg.p with c := (rolByte v s.reg.p.c).2 })

/-- R163: ROL ACC, 0x2A, 2 cycles. -/
def execRolAcc (s : State) : Host.Outcome State Fault Refusal :=
  accInstr 2 rol s

/-- R163: ROL ZP, 0x26, 5 cycles. -/
def execRolZp (b : Byte) (s : State) : Host.Outcome State Fault Refusal :=
  rmwInstr 5 (.zp b) rol s

/-- R163: ROL ZPX, 0x36, 6 cycles. -/
def execRolZpx (b : Byte) (s : State) : Host.Outcome State Fault Refusal :=
  rmwInstr 6 (.zpx b) rol s

/-- R163: ROL ABS, 0x2E, 6 cycles. -/
def execRolAbs (w : Word) (s : State) : Host.Outcome State Fault Refusal :=
  rmwInstr 6 (.abs w) rol s

/-- R163: ROL ABX, 0x3E, 7 cycles. -/
def execRolAbx (w : Word) (s : State) : Host.Outcome State Fault Refusal :=
  rmwInstr 7 (.abx w) rol s

/-- R164: ROR, from the old carry. -/
def ror (v : Byte) (s : State) : Byte × State :=
  ((rorByte v s.reg.p.c).1, s.setP { s.reg.p with c := (rorByte v s.reg.p.c).2 })

/-- R164: ROR ACC, 0x6A, 2 cycles. -/
def execRorAcc (s : State) : Host.Outcome State Fault Refusal :=
  accInstr 2 ror s

/-- R164: ROR ZP, 0x66, 5 cycles. -/
def execRorZp (b : Byte) (s : State) : Host.Outcome State Fault Refusal :=
  rmwInstr 5 (.zp b) ror s

/-- R164: ROR ZPX, 0x76, 6 cycles. -/
def execRorZpx (b : Byte) (s : State) : Host.Outcome State Fault Refusal :=
  rmwInstr 6 (.zpx b) ror s

/-- R164: ROR ABS, 0x6E, 6 cycles. -/
def execRorAbs (w : Word) (s : State) : Host.Outcome State Fault Refusal :=
  rmwInstr 6 (.abs w) ror s

/-- R164: ROR ABX, 0x7E, 7 cycles. -/
def execRorAbx (w : Word) (s : State) : Host.Outcome State Fault Refusal :=
  rmwInstr 7 (.abx w) ror s

end Sys2Proof.Machine
end

