-- ==== Sys2Proof/Machine/StackFlags.lean ====
section
/-! DEFINITION. The push, pull and flag instructions and NOP (spec/47_stack_flags.md). -/

namespace Sys2Proof.Machine

/-- R191: PHA IMP, 0x48, 3 cycles. -/
def execPha (s : State) : Host.Outcome State Fault Refusal :=
  impliedInstr 3 (fun s => s.push s.reg.a) s

/-- R192: PHP IMP, 0x08, 3 cycles. -/
def execPhp (s : State) : Host.Outcome State Fault Refusal :=
  impliedInstr 3 (fun s => s.push (s.reg.p.statusByte true)) s

/-- R193: PLA. -/
def pullA (s : State) : State :=
  let v := s.pull
  (v.2.setA v.1).setZN v.1

/-- R193: PLA IMP, 0x68, 4 cycles. -/
def execPla (s : State) : Host.Outcome State Fault Refusal :=
  impliedInstr 4 pullA s

/-- R194: PLP. -/
def pullP (s : State) : State :=
  let v := s.pull
  v.2.setP (Flags.ofStatusByte v.1)

/-- R194: PLP IMP, 0x28, 4 cycles. -/
def execPlp (s : State) : Host.Outcome State Fault Refusal :=
  impliedInstr 4 pullP s

/-- R195: CLC IMP, 0x18, 2 cycles. -/
def execClc (s : State) : Host.Outcome State Fault Refusal :=
  impliedInstr 2 (fun s => s.setP { s.reg.p with c := false }) s

/-- R196: SEC IMP, 0x38, 2 cycles. -/
def execSec (s : State) : Host.Outcome State Fault Refusal :=
  impliedInstr 2 (fun s => s.setP { s.reg.p with c := true }) s

/-- R197: CLI IMP, 0x58, 2 cycles. -/
def execCli (s : State) : Host.Outcome State Fault Refusal :=
  impliedInstr 2 (fun s => s.setP { s.reg.p with i := false }) s

/-- R198: SEI IMP, 0x78, 2 cycles. -/
def execSei (s : State) : Host.Outcome State Fault Refusal :=
  impliedInstr 2 (fun s => s.setP { s.reg.p with i := true }) s

/-- R199: CLD IMP, 0xD8, 2 cycles. -/
def execCld (s : State) : Host.Outcome State Fault Refusal :=
  impliedInstr 2 (fun s => s.setP { s.reg.p with d := false }) s

/-- R200: SED IMP, 0xF8, 2 cycles. -/
def execSed (s : State) : Host.Outcome State Fault Refusal :=
  impliedInstr 2 (fun s => s.setP { s.reg.p with d := true }) s

/-- R201: CLV IMP, 0xB8, 2 cycles. -/
def execClv (s : State) : Host.Outcome State Fault Refusal :=
  impliedInstr 2 (fun s => s.setP { s.reg.p with v := false }) s

/-- R202: NOP IMP, 0xEA, 2 cycles. -/
def execNop (s : State) : Host.Outcome State Fault Refusal :=
  impliedInstr 2 (fun s => s) s

end Sys2Proof.Machine
end

