-- ==== Sys2Proof/Machine/System.lean ====
section
/-! DEFINITION. The system instructions BRK and RTI and the 105 undefined opcodes (spec/49_system.md). -/

namespace Sys2Proof.Machine

/-- R230: BRK: `Interrupt(0xFFFE, 1)` with the address PC0 + 2; PC is here PC0 + 1. -/
def breakTo (s : State) : State :=
  (s.interrupt Config.irqVector true (s.reg.pc + 1)).emit (.brk (s.reg.pc - 1))

/-- R230: BRK IMP, 0x00, 7 cycles. -/
def execBrk (s : State) : Host.Outcome State Fault Refusal :=
  impliedInstr 7 breakTo s

/-- R231: RTI IMP, 0x40, 6 cycles. -/
def execRti (s : State) : Host.Outcome State Fault Refusal :=
  impliedInstr 6 State.returnFromInterrupt s

/-- R232: an undefined opcode: one byte, two cycles, a diagnostic event, nothing else; PC is here PC0 + 1. -/
def undefinedOpcode (op : Byte) (s : State) : Host.Outcome State Fault Refusal :=
  impliedInstr 2 (fun s => s.emit (.undefinedOpcode (s.reg.pc - 1) op)) s

/-- R232: the undefined opcode 0x02. -/
def execUnd02 (s : State) : Host.Outcome State Fault Refusal := undefinedOpcode 0x02 s

/-- R232: the undefined opcode 0x03. -/
def execUnd03 (s : State) : Host.Outcome State Fault Refusal := undefinedOpcode 0x03 s

/-- R232: the undefined opcode 0x04. -/
def execUnd04 (s : State) : Host.Outcome State Fault Refusal := undefinedOpcode 0x04 s

/-- R232: the undefined opcode 0x07. -/
def execUnd07 (s : State) : Host.Outcome State Fault Refusal := undefinedOpcode 0x07 s

/-- R232: the undefined opcode 0x0B. -/
def execUnd0B (s : State) : Host.Outcome State Fault Refusal := undefinedOpcode 0x0B s

/-- R232: the undefined opcode 0x0C. -/
def execUnd0C (s : State) : Host.Outcome State Fault Refusal := undefinedOpcode 0x0C s

/-- R232: the undefined opcode 0x0F. -/
def execUnd0F (s : State) : Host.Outcome State Fault Refusal := undefinedOpcode 0x0F s

/-- R232: the undefined opcode 0x12. -/
def execUnd12 (s : State) : Host.Outcome State Fault Refusal := undefinedOpcode 0x12 s

/-- R232: the undefined opcode 0x13. -/
def execUnd13 (s : State) : Host.Outcome State Fault Refusal := undefinedOpcode 0x13 s

/-- R232: the undefined opcode 0x14. -/
def execUnd14 (s : State) : Host.Outcome State Fault Refusal := undefinedOpcode 0x14 s

/-- R232: the undefined opcode 0x17. -/
def execUnd17 (s : State) : Host.Outcome State Fault Refusal := undefinedOpcode 0x17 s

/-- R232: the undefined opcode 0x1A. -/
def execUnd1A (s : State) : Host.Outcome State Fault Refusal := undefinedOpcode 0x1A s

/-- R232: the undefined opcode 0x1B. -/
def execUnd1B (s : State) : Host.Outcome State Fault Refusal := undefinedOpcode 0x1B s

/-- R232: the undefined opcode 0x1C. -/
def execUnd1C (s : State) : Host.Outcome State Fault Refusal := undefinedOpcode 0x1C s

/-- R232: the undefined opcode 0x1F. -/
def execUnd1F (s : State) : Host.Outcome State Fault Refusal := undefinedOpcode 0x1F s

/-- R232: the undefined opcode 0x22. -/
def execUnd22 (s : State) : Host.Outcome State Fault Refusal := undefinedOpcode 0x22 s

/-- R232: the undefined opcode 0x23. -/
def execUnd23 (s : State) : Host.Outcome State Fault Refusal := undefinedOpcode 0x23 s

/-- R232: the undefined opcode 0x27. -/
def execUnd27 (s : State) : Host.Outcome State Fault Refusal := undefinedOpcode 0x27 s

/-- R232: the undefined opcode 0x2B. -/
def execUnd2B (s : State) : Host.Outcome State Fault Refusal := undefinedOpcode 0x2B s

/-- R232: the undefined opcode 0x2F. -/
def execUnd2F (s : State) : Host.Outcome State Fault Refusal := undefinedOpcode 0x2F s

/-- R232: the undefined opcode 0x32. -/
def execUnd32 (s : State) : Host.Outcome State Fault Refusal := undefinedOpcode 0x32 s

/-- R232: the undefined opcode 0x33. -/
def execUnd33 (s : State) : Host.Outcome State Fault Refusal := undefinedOpcode 0x33 s

/-- R232: the undefined opcode 0x34. -/
def execUnd34 (s : State) : Host.Outcome State Fault Refusal := undefinedOpcode 0x34 s

/-- R232: the undefined opcode 0x37. -/
def execUnd37 (s : State) : Host.Outcome State Fault Refusal := undefinedOpcode 0x37 s

/-- R232: the undefined opcode 0x3A. -/
def execUnd3A (s : State) : Host.Outcome State Fault Refusal := undefinedOpcode 0x3A s

/-- R232: the undefined opcode 0x3B. -/
def execUnd3B (s : State) : Host.Outcome State Fault Refusal := undefinedOpcode 0x3B s

/-- R232: the undefined opcode 0x3C. -/
def execUnd3C (s : State) : Host.Outcome State Fault Refusal := undefinedOpcode 0x3C s

/-- R232: the undefined opcode 0x3F. -/
def execUnd3F (s : State) : Host.Outcome State Fault Refusal := undefinedOpcode 0x3F s

/-- R232: the undefined opcode 0x42. -/
def execUnd42 (s : State) : Host.Outcome State Fault Refusal := undefinedOpcode 0x42 s

/-- R232: the undefined opcode 0x43. -/
def execUnd43 (s : State) : Host.Outcome State Fault Refusal := undefinedOpcode 0x43 s

/-- R232: the undefined opcode 0x44. -/
def execUnd44 (s : State) : Host.Outcome State Fault Refusal := undefinedOpcode 0x44 s

/-- R232: the undefined opcode 0x47. -/
def execUnd47 (s : State) : Host.Outcome State Fault Refusal := undefinedOpcode 0x47 s

/-- R232: the undefined opcode 0x4B. -/
def execUnd4B (s : State) : Host.Outcome State Fault Refusal := undefinedOpcode 0x4B s

/-- R232: the undefined opcode 0x4F. -/
def execUnd4F (s : State) : Host.Outcome State Fault Refusal := undefinedOpcode 0x4F s

/-- R232: the undefined opcode 0x52. -/
def execUnd52 (s : State) : Host.Outcome State Fault Refusal := undefinedOpcode 0x52 s

/-- R232: the undefined opcode 0x53. -/
def execUnd53 (s : State) : Host.Outcome State Fault Refusal := undefinedOpcode 0x53 s

/-- R232: the undefined opcode 0x54. -/
def execUnd54 (s : State) : Host.Outcome State Fault Refusal := undefinedOpcode 0x54 s

/-- R232: the undefined opcode 0x57. -/
def execUnd57 (s : State) : Host.Outcome State Fault Refusal := undefinedOpcode 0x57 s

/-- R232: the undefined opcode 0x5A. -/
def execUnd5A (s : State) : Host.Outcome State Fault Refusal := undefinedOpcode 0x5A s

/-- R232: the undefined opcode 0x5B. -/
def execUnd5B (s : State) : Host.Outcome State Fault Refusal := undefinedOpcode 0x5B s

/-- R232: the undefined opcode 0x5C. -/
def execUnd5C (s : State) : Host.Outcome State Fault Refusal := undefinedOpcode 0x5C s

/-- R232: the undefined opcode 0x5F. -/
def execUnd5F (s : State) : Host.Outcome State Fault Refusal := undefinedOpcode 0x5F s

/-- R232: the undefined opcode 0x62. -/
def execUnd62 (s : State) : Host.Outcome State Fault Refusal := undefinedOpcode 0x62 s

/-- R232: the undefined opcode 0x63. -/
def execUnd63 (s : State) : Host.Outcome State Fault Refusal := undefinedOpcode 0x63 s

/-- R232: the undefined opcode 0x64. -/
def execUnd64 (s : State) : Host.Outcome State Fault Refusal := undefinedOpcode 0x64 s

/-- R232: the undefined opcode 0x67. -/
def execUnd67 (s : State) : Host.Outcome State Fault Refusal := undefinedOpcode 0x67 s

/-- R232: the undefined opcode 0x6B. -/
def execUnd6B (s : State) : Host.Outcome State Fault Refusal := undefinedOpcode 0x6B s

/-- R232: the undefined opcode 0x6F. -/
def execUnd6F (s : State) : Host.Outcome State Fault Refusal := undefinedOpcode 0x6F s

/-- R232: the undefined opcode 0x72. -/
def execUnd72 (s : State) : Host.Outcome State Fault Refusal := undefinedOpcode 0x72 s

/-- R232: the undefined opcode 0x73. -/
def execUnd73 (s : State) : Host.Outcome State Fault Refusal := undefinedOpcode 0x73 s

/-- R232: the undefined opcode 0x74. -/
def execUnd74 (s : State) : Host.Outcome State Fault Refusal := undefinedOpcode 0x74 s

/-- R232: the undefined opcode 0x77. -/
def execUnd77 (s : State) : Host.Outcome State Fault Refusal := undefinedOpcode 0x77 s

/-- R232: the undefined opcode 0x7A. -/
def execUnd7A (s : State) : Host.Outcome State Fault Refusal := undefinedOpcode 0x7A s

/-- R232: the undefined opcode 0x7B. -/
def execUnd7B (s : State) : Host.Outcome State Fault Refusal := undefinedOpcode 0x7B s

/-- R232: the undefined opcode 0x7C. -/
def execUnd7C (s : State) : Host.Outcome State Fault Refusal := undefinedOpcode 0x7C s

/-- R232: the undefined opcode 0x7F. -/
def execUnd7F (s : State) : Host.Outcome State Fault Refusal := undefinedOpcode 0x7F s

/-- R232: the undefined opcode 0x80. -/
def execUnd80 (s : State) : Host.Outcome State Fault Refusal := undefinedOpcode 0x80 s

/-- R232: the undefined opcode 0x82. -/
def execUnd82 (s : State) : Host.Outcome State Fault Refusal := undefinedOpcode 0x82 s

/-- R232: the undefined opcode 0x83. -/
def execUnd83 (s : State) : Host.Outcome State Fault Refusal := undefinedOpcode 0x83 s

/-- R232: the undefined opcode 0x87. -/
def execUnd87 (s : State) : Host.Outcome State Fault Refusal := undefinedOpcode 0x87 s

/-- R232: the undefined opcode 0x89. -/
def execUnd89 (s : State) : Host.Outcome State Fault Refusal := undefinedOpcode 0x89 s

/-- R232: the undefined opcode 0x8B. -/
def execUnd8B (s : State) : Host.Outcome State Fault Refusal := undefinedOpcode 0x8B s

/-- R232: the undefined opcode 0x8F. -/
def execUnd8F (s : State) : Host.Outcome State Fault Refusal := undefinedOpcode 0x8F s

/-- R232: the undefined opcode 0x92. -/
def execUnd92 (s : State) : Host.Outcome State Fault Refusal := undefinedOpcode 0x92 s

/-- R232: the undefined opcode 0x93. -/
def execUnd93 (s : State) : Host.Outcome State Fault Refusal := undefinedOpcode 0x93 s

/-- R232: the undefined opcode 0x97. -/
def execUnd97 (s : State) : Host.Outcome State Fault Refusal := undefinedOpcode 0x97 s

/-- R232: the undefined opcode 0x9B. -/
def execUnd9B (s : State) : Host.Outcome State Fault Refusal := undefinedOpcode 0x9B s

/-- R232: the undefined opcode 0x9C. -/
def execUnd9C (s : State) : Host.Outcome State Fault Refusal := undefinedOpcode 0x9C s

/-- R232: the undefined opcode 0x9E. -/
def execUnd9E (s : State) : Host.Outcome State Fault Refusal := undefinedOpcode 0x9E s

/-- R232: the undefined opcode 0x9F. -/
def execUnd9F (s : State) : Host.Outcome State Fault Refusal := undefinedOpcode 0x9F s

/-- R232: the undefined opcode 0xA3. -/
def execUndA3 (s : State) : Host.Outcome State Fault Refusal := undefinedOpcode 0xA3 s

/-- R232: the undefined opcode 0xA7. -/
def execUndA7 (s : State) : Host.Outcome State Fault Refusal := undefinedOpcode 0xA7 s

/-- R232: the undefined opcode 0xAB. -/
def execUndAB (s : State) : Host.Outcome State Fault Refusal := undefinedOpcode 0xAB s

/-- R232: the undefined opcode 0xAF. -/
def execUndAF (s : State) : Host.Outcome State Fault Refusal := undefinedOpcode 0xAF s

/-- R232: the undefined opcode 0xB2. -/
def execUndB2 (s : State) : Host.Outcome State Fault Refusal := undefinedOpcode 0xB2 s

/-- R232: the undefined opcode 0xB3. -/
def execUndB3 (s : State) : Host.Outcome State Fault Refusal := undefinedOpcode 0xB3 s

/-- R232: the undefined opcode 0xB7. -/
def execUndB7 (s : State) : Host.Outcome State Fault Refusal := undefinedOpcode 0xB7 s

/-- R232: the undefined opcode 0xBB. -/
def execUndBB (s : State) : Host.Outcome State Fault Refusal := undefinedOpcode 0xBB s

/-- R232: the undefined opcode 0xBF. -/
def execUndBF (s : State) : Host.Outcome State Fault Refusal := undefinedOpcode 0xBF s

/-- R232: the undefined opcode 0xC2. -/
def execUndC2 (s : State) : Host.Outcome State Fault Refusal := undefinedOpcode 0xC2 s

/-- R232: the undefined opcode 0xC3. -/
def execUndC3 (s : State) : Host.Outcome State Fault Refusal := undefinedOpcode 0xC3 s

/-- R232: the undefined opcode 0xC7. -/
def execUndC7 (s : State) : Host.Outcome State Fault Refusal := undefinedOpcode 0xC7 s

/-- R232: the undefined opcode 0xCB. -/
def execUndCB (s : State) : Host.Outcome State Fault Refusal := undefinedOpcode 0xCB s

/-- R232: the undefined opcode 0xCF. -/
def execUndCF (s : State) : Host.Outcome State Fault Refusal := undefinedOpcode 0xCF s

/-- R232: the undefined opcode 0xD2. -/
def execUndD2 (s : State) : Host.Outcome State Fault Refusal := undefinedOpcode 0xD2 s

/-- R232: the undefined opcode 0xD3. -/
def execUndD3 (s : State) : Host.Outcome State Fault Refusal := undefinedOpcode 0xD3 s

/-- R232: the undefined opcode 0xD4. -/
def execUndD4 (s : State) : Host.Outcome State Fault Refusal := undefinedOpcode 0xD4 s

/-- R232: the undefined opcode 0xD7. -/
def execUndD7 (s : State) : Host.Outcome State Fault Refusal := undefinedOpcode 0xD7 s

/-- R232: the undefined opcode 0xDA. -/
def execUndDA (s : State) : Host.Outcome State Fault Refusal := undefinedOpcode 0xDA s

/-- R232: the undefined opcode 0xDB. -/
def execUndDB (s : State) : Host.Outcome State Fault Refusal := undefinedOpcode 0xDB s

/-- R232: the undefined opcode 0xDC. -/
def execUndDC (s : State) : Host.Outcome State Fault Refusal := undefinedOpcode 0xDC s

/-- R232: the undefined opcode 0xDF. -/
def execUndDF (s : State) : Host.Outcome State Fault Refusal := undefinedOpcode 0xDF s

/-- R232: the undefined opcode 0xE2. -/
def execUndE2 (s : State) : Host.Outcome State Fault Refusal := undefinedOpcode 0xE2 s

/-- R232: the undefined opcode 0xE3. -/
def execUndE3 (s : State) : Host.Outcome State Fault Refusal := undefinedOpcode 0xE3 s

/-- R232: the undefined opcode 0xE7. -/
def execUndE7 (s : State) : Host.Outcome State Fault Refusal := undefinedOpcode 0xE7 s

/-- R232: the undefined opcode 0xEB. -/
def execUndEB (s : State) : Host.Outcome State Fault Refusal := undefinedOpcode 0xEB s

/-- R232: the undefined opcode 0xEF. -/
def execUndEF (s : State) : Host.Outcome State Fault Refusal := undefinedOpcode 0xEF s

/-- R232: the undefined opcode 0xF2. -/
def execUndF2 (s : State) : Host.Outcome State Fault Refusal := undefinedOpcode 0xF2 s

/-- R232: the undefined opcode 0xF3. -/
def execUndF3 (s : State) : Host.Outcome State Fault Refusal := undefinedOpcode 0xF3 s

/-- R232: the undefined opcode 0xF4. -/
def execUndF4 (s : State) : Host.Outcome State Fault Refusal := undefinedOpcode 0xF4 s

/-- R232: the undefined opcode 0xF7. -/
def execUndF7 (s : State) : Host.Outcome State Fault Refusal := undefinedOpcode 0xF7 s

/-- R232: the undefined opcode 0xFA. -/
def execUndFA (s : State) : Host.Outcome State Fault Refusal := undefinedOpcode 0xFA s

/-- R232: the undefined opcode 0xFB. -/
def execUndFB (s : State) : Host.Outcome State Fault Refusal := undefinedOpcode 0xFB s

/-- R232: the undefined opcode 0xFC. -/
def execUndFC (s : State) : Host.Outcome State Fault Refusal := undefinedOpcode 0xFC s

/-- R232: the undefined opcode 0xFF. -/
def execUndFF (s : State) : Host.Outcome State Fault Refusal := undefinedOpcode 0xFF s

end Sys2Proof.Machine
end

