-- ==== Sys2Proof/Machine/Dispatch.lean ====
section
/-! DEFINITION. R80, R290 branch 3: the operation of each instruction, one arm per constructor of `Instr`. -/

namespace Sys2Proof.Machine

/-- R290: `execute row.rule`, with PC already past the instruction's bytes (R11). -/
def exec (i : Instr) (s : State) : Host.Outcome State Fault Refusal :=
  match i with
  | .adcImm b => Sys2Proof.Machine.execAdcImm b s
  | .adcZp b => Sys2Proof.Machine.execAdcZp b s
  | .adcZpx b => Sys2Proof.Machine.execAdcZpx b s
  | .adcAbs w => Sys2Proof.Machine.execAdcAbs w s
  | .adcAbx w => Sys2Proof.Machine.execAdcAbx w s
  | .adcAby w => Sys2Proof.Machine.execAdcAby w s
  | .adcIzx b => Sys2Proof.Machine.execAdcIzx b s
  | .adcIzy b => Sys2Proof.Machine.execAdcIzy b s
  | .sbcImm b => Sys2Proof.Machine.execSbcImm b s
  | .sbcZp b => Sys2Proof.Machine.execSbcZp b s
  | .sbcZpx b => Sys2Proof.Machine.execSbcZpx b s
  | .sbcAbs w => Sys2Proof.Machine.execSbcAbs w s
  | .sbcAbx w => Sys2Proof.Machine.execSbcAbx w s
  | .sbcAby w => Sys2Proof.Machine.execSbcAby w s
  | .sbcIzx b => Sys2Proof.Machine.execSbcIzx b s
  | .sbcIzy b => Sys2Proof.Machine.execSbcIzy b s
  | .incZp b => Sys2Proof.Machine.execIncZp b s
  | .incZpx b => Sys2Proof.Machine.execIncZpx b s
  | .incAbs w => Sys2Proof.Machine.execIncAbs w s
  | .incAbx w => Sys2Proof.Machine.execIncAbx w s
  | .decZp b => Sys2Proof.Machine.execDecZp b s
  | .decZpx b => Sys2Proof.Machine.execDecZpx b s
  | .decAbs w => Sys2Proof.Machine.execDecAbs w s
  | .decAbx w => Sys2Proof.Machine.execDecAbx w s
  | .inx => Sys2Proof.Machine.execInx s
  | .iny => Sys2Proof.Machine.execIny s
  | .dex => Sys2Proof.Machine.execDex s
  | .dey => Sys2Proof.Machine.execDey s
  | .andImm b => Sys2Proof.Machine.execAndImm b s
  | .andZp b => Sys2Proof.Machine.execAndZp b s
  | .andZpx b => Sys2Proof.Machine.execAndZpx b s
  | .andAbs w => Sys2Proof.Machine.execAndAbs w s
  | .andAbx w => Sys2Proof.Machine.execAndAbx w s
  | .andAby w => Sys2Proof.Machine.execAndAby w s
  | .andIzx b => Sys2Proof.Machine.execAndIzx b s
  | .andIzy b => Sys2Proof.Machine.execAndIzy b s
  | .oraImm b => Sys2Proof.Machine.execOraImm b s
  | .oraZp b => Sys2Proof.Machine.execOraZp b s
  | .oraZpx b => Sys2Proof.Machine.execOraZpx b s
  | .oraAbs w => Sys2Proof.Machine.execOraAbs w s
  | .oraAbx w => Sys2Proof.Machine.execOraAbx w s
  | .oraAby w => Sys2Proof.Machine.execOraAby w s
  | .oraIzx b => Sys2Proof.Machine.execOraIzx b s
  | .oraIzy b => Sys2Proof.Machine.execOraIzy b s
  | .eorImm b => Sys2Proof.Machine.execEorImm b s
  | .eorZp b => Sys2Proof.Machine.execEorZp b s
  | .eorZpx b => Sys2Proof.Machine.execEorZpx b s
  | .eorAbs w => Sys2Proof.Machine.execEorAbs w s
  | .eorAbx w => Sys2Proof.Machine.execEorAbx w s
  | .eorAby w => Sys2Proof.Machine.execEorAby w s
  | .eorIzx b => Sys2Proof.Machine.execEorIzx b s
  | .eorIzy b => Sys2Proof.Machine.execEorIzy b s
  | .bitZp b => Sys2Proof.Machine.execBitZp b s
  | .bitAbs w => Sys2Proof.Machine.execBitAbs w s
  | .cmpImm b => Sys2Proof.Machine.execCmpImm b s
  | .cmpZp b => Sys2Proof.Machine.execCmpZp b s
  | .cmpZpx b => Sys2Proof.Machine.execCmpZpx b s
  | .cmpAbs w => Sys2Proof.Machine.execCmpAbs w s
  | .cmpAbx w => Sys2Proof.Machine.execCmpAbx w s
  | .cmpAby w => Sys2Proof.Machine.execCmpAby w s
  | .cmpIzx b => Sys2Proof.Machine.execCmpIzx b s
  | .cmpIzy b => Sys2Proof.Machine.execCmpIzy b s
  | .cpxImm b => Sys2Proof.Machine.execCpxImm b s
  | .cpxZp b => Sys2Proof.Machine.execCpxZp b s
  | .cpxAbs w => Sys2Proof.Machine.execCpxAbs w s
  | .cpyImm b => Sys2Proof.Machine.execCpyImm b s
  | .cpyZp b => Sys2Proof.Machine.execCpyZp b s
  | .cpyAbs w => Sys2Proof.Machine.execCpyAbs w s
  | .aslAcc => Sys2Proof.Machine.execAslAcc s
  | .aslZp b => Sys2Proof.Machine.execAslZp b s
  | .aslZpx b => Sys2Proof.Machine.execAslZpx b s
  | .aslAbs w => Sys2Proof.Machine.execAslAbs w s
  | .aslAbx w => Sys2Proof.Machine.execAslAbx w s
  | .lsrAcc => Sys2Proof.Machine.execLsrAcc s
  | .lsrZp b => Sys2Proof.Machine.execLsrZp b s
  | .lsrZpx b => Sys2Proof.Machine.execLsrZpx b s
  | .lsrAbs w => Sys2Proof.Machine.execLsrAbs w s
  | .lsrAbx w => Sys2Proof.Machine.execLsrAbx w s
  | .rolAcc => Sys2Proof.Machine.execRolAcc s
  | .rolZp b => Sys2Proof.Machine.execRolZp b s
  | .rolZpx b => Sys2Proof.Machine.execRolZpx b s
  | .rolAbs w => Sys2Proof.Machine.execRolAbs w s
  | .rolAbx w => Sys2Proof.Machine.execRolAbx w s
  | .rorAcc => Sys2Proof.Machine.execRorAcc s
  | .rorZp b => Sys2Proof.Machine.execRorZp b s
  | .rorZpx b => Sys2Proof.Machine.execRorZpx b s
  | .rorAbs w => Sys2Proof.Machine.execRorAbs w s
  | .rorAbx w => Sys2Proof.Machine.execRorAbx w s
  | .ldaImm b => Sys2Proof.Machine.execLdaImm b s
  | .ldaZp b => Sys2Proof.Machine.execLdaZp b s
  | .ldaZpx b => Sys2Proof.Machine.execLdaZpx b s
  | .ldaAbs w => Sys2Proof.Machine.execLdaAbs w s
  | .ldaAbx w => Sys2Proof.Machine.execLdaAbx w s
  | .ldaAby w => Sys2Proof.Machine.execLdaAby w s
  | .ldaIzx b => Sys2Proof.Machine.execLdaIzx b s
  | .ldaIzy b => Sys2Proof.Machine.execLdaIzy b s
  | .ldxImm b => Sys2Proof.Machine.execLdxImm b s
  | .ldxZp b => Sys2Proof.Machine.execLdxZp b s
  | .ldxZpy b => Sys2Proof.Machine.execLdxZpy b s
  | .ldxAbs w => Sys2Proof.Machine.execLdxAbs w s
  | .ldxAby w => Sys2Proof.Machine.execLdxAby w s
  | .ldyImm b => Sys2Proof.Machine.execLdyImm b s
  | .ldyZp b => Sys2Proof.Machine.execLdyZp b s
  | .ldyZpx b => Sys2Proof.Machine.execLdyZpx b s
  | .ldyAbs w => Sys2Proof.Machine.execLdyAbs w s
  | .ldyAbx w => Sys2Proof.Machine.execLdyAbx w s
  | .staZp b => Sys2Proof.Machine.execStaZp b s
  | .staZpx b => Sys2Proof.Machine.execStaZpx b s
  | .staAbs w => Sys2Proof.Machine.execStaAbs w s
  | .staAbx w => Sys2Proof.Machine.execStaAbx w s
  | .staAby w => Sys2Proof.Machine.execStaAby w s
  | .staIzx b => Sys2Proof.Machine.execStaIzx b s
  | .staIzy b => Sys2Proof.Machine.execStaIzy b s
  | .stxZp b => Sys2Proof.Machine.execStxZp b s
  | .stxZpy b => Sys2Proof.Machine.execStxZpy b s
  | .stxAbs w => Sys2Proof.Machine.execStxAbs w s
  | .styZp b => Sys2Proof.Machine.execStyZp b s
  | .styZpx b => Sys2Proof.Machine.execStyZpx b s
  | .styAbs w => Sys2Proof.Machine.execStyAbs w s
  | .tax => Sys2Proof.Machine.execTax s
  | .tay => Sys2Proof.Machine.execTay s
  | .txa => Sys2Proof.Machine.execTxa s
  | .tya => Sys2Proof.Machine.execTya s
  | .tsx => Sys2Proof.Machine.execTsx s
  | .txs => Sys2Proof.Machine.execTxs s
  | .pha => Sys2Proof.Machine.execPha s
  | .php => Sys2Proof.Machine.execPhp s
  | .pla => Sys2Proof.Machine.execPla s
  | .plp => Sys2Proof.Machine.execPlp s
  | .clc => Sys2Proof.Machine.execClc s
  | .sec => Sys2Proof.Machine.execSec s
  | .cli => Sys2Proof.Machine.execCli s
  | .sei => Sys2Proof.Machine.execSei s
  | .cld => Sys2Proof.Machine.execCld s
  | .sed => Sys2Proof.Machine.execSed s
  | .clv => Sys2Proof.Machine.execClv s
  | .nop => Sys2Proof.Machine.execNop s
  | .jmpAbs w => Sys2Proof.Machine.execJmpAbs w s
  | .jmpInd w => Sys2Proof.Machine.execJmpInd w s
  | .jsr w => Sys2Proof.Machine.execJsr w s
  | .rts => Sys2Proof.Machine.execRts s
  | .bcc b => Sys2Proof.Machine.execBcc b s
  | .bcs b => Sys2Proof.Machine.execBcs b s
  | .beq b => Sys2Proof.Machine.execBeq b s
  | .bne b => Sys2Proof.Machine.execBne b s
  | .bmi b => Sys2Proof.Machine.execBmi b s
  | .bpl b => Sys2Proof.Machine.execBpl b s
  | .bvc b => Sys2Proof.Machine.execBvc b s
  | .bvs b => Sys2Proof.Machine.execBvs b s
  | .brk => Sys2Proof.Machine.execBrk s
  | .rti => Sys2Proof.Machine.execRti s
  | .und02 => Sys2Proof.Machine.execUnd02 s
  | .und03 => Sys2Proof.Machine.execUnd03 s
  | .und04 => Sys2Proof.Machine.execUnd04 s
  | .und07 => Sys2Proof.Machine.execUnd07 s
  | .und0B => Sys2Proof.Machine.execUnd0B s
  | .und0C => Sys2Proof.Machine.execUnd0C s
  | .und0F => Sys2Proof.Machine.execUnd0F s
  | .und12 => Sys2Proof.Machine.execUnd12 s
  | .und13 => Sys2Proof.Machine.execUnd13 s
  | .und14 => Sys2Proof.Machine.execUnd14 s
  | .und17 => Sys2Proof.Machine.execUnd17 s
  | .und1A => Sys2Proof.Machine.execUnd1A s
  | .und1B => Sys2Proof.Machine.execUnd1B s
  | .und1C => Sys2Proof.Machine.execUnd1C s
  | .und1F => Sys2Proof.Machine.execUnd1F s
  | .und22 => Sys2Proof.Machine.execUnd22 s
  | .und23 => Sys2Proof.Machine.execUnd23 s
  | .und27 => Sys2Proof.Machine.execUnd27 s
  | .und2B => Sys2Proof.Machine.execUnd2B s
  | .und2F => Sys2Proof.Machine.execUnd2F s
  | .und32 => Sys2Proof.Machine.execUnd32 s
  | .und33 => Sys2Proof.Machine.execUnd33 s
  | .und34 => Sys2Proof.Machine.execUnd34 s
  | .und37 => Sys2Proof.Machine.execUnd37 s
  | .und3A => Sys2Proof.Machine.execUnd3A s
  | .und3B => Sys2Proof.Machine.execUnd3B s
  | .und3C => Sys2Proof.Machine.execUnd3C s
  | .und3F => Sys2Proof.Machine.execUnd3F s
  | .und42 => Sys2Proof.Machine.execUnd42 s
  | .und43 => Sys2Proof.Machine.execUnd43 s
  | .und44 => Sys2Proof.Machine.execUnd44 s
  | .und47 => Sys2Proof.Machine.execUnd47 s
  | .und4B => Sys2Proof.Machine.execUnd4B s
  | .und4F => Sys2Proof.Machine.execUnd4F s
  | .und52 => Sys2Proof.Machine.execUnd52 s
  | .und53 => Sys2Proof.Machine.execUnd53 s
  | .und54 => Sys2Proof.Machine.execUnd54 s
  | .und57 => Sys2Proof.Machine.execUnd57 s
  | .und5A => Sys2Proof.Machine.execUnd5A s
  | .und5B => Sys2Proof.Machine.execUnd5B s
  | .und5C => Sys2Proof.Machine.execUnd5C s
  | .und5F => Sys2Proof.Machine.execUnd5F s
  | .und62 => Sys2Proof.Machine.execUnd62 s
  | .und63 => Sys2Proof.Machine.execUnd63 s
  | .und64 => Sys2Proof.Machine.execUnd64 s
  | .und67 => Sys2Proof.Machine.execUnd67 s
  | .und6B => Sys2Proof.Machine.execUnd6B s
  | .und6F => Sys2Proof.Machine.execUnd6F s
  | .und72 => Sys2Proof.Machine.execUnd72 s
  | .und73 => Sys2Proof.Machine.execUnd73 s
  | .und74 => Sys2Proof.Machine.execUnd74 s
  | .und77 => Sys2Proof.Machine.execUnd77 s
  | .und7A => Sys2Proof.Machine.execUnd7A s
  | .und7B => Sys2Proof.Machine.execUnd7B s
  | .und7C => Sys2Proof.Machine.execUnd7C s
  | .und7F => Sys2Proof.Machine.execUnd7F s
  | .und80 => Sys2Proof.Machine.execUnd80 s
  | .und82 => Sys2Proof.Machine.execUnd82 s
  | .und83 => Sys2Proof.Machine.execUnd83 s
  | .und87 => Sys2Proof.Machine.execUnd87 s
  | .und89 => Sys2Proof.Machine.execUnd89 s
  | .und8B => Sys2Proof.Machine.execUnd8B s
  | .und8F => Sys2Proof.Machine.execUnd8F s
  | .und92 => Sys2Proof.Machine.execUnd92 s
  | .und93 => Sys2Proof.Machine.execUnd93 s
  | .und97 => Sys2Proof.Machine.execUnd97 s
  | .und9B => Sys2Proof.Machine.execUnd9B s
  | .und9C => Sys2Proof.Machine.execUnd9C s
  | .und9E => Sys2Proof.Machine.execUnd9E s
  | .und9F => Sys2Proof.Machine.execUnd9F s
  | .undA3 => Sys2Proof.Machine.execUndA3 s
  | .undA7 => Sys2Proof.Machine.execUndA7 s
  | .undAB => Sys2Proof.Machine.execUndAB s
  | .undAF => Sys2Proof.Machine.execUndAF s
  | .undB2 => Sys2Proof.Machine.execUndB2 s
  | .undB3 => Sys2Proof.Machine.execUndB3 s
  | .undB7 => Sys2Proof.Machine.execUndB7 s
  | .undBB => Sys2Proof.Machine.execUndBB s
  | .undBF => Sys2Proof.Machine.execUndBF s
  | .undC2 => Sys2Proof.Machine.execUndC2 s
  | .undC3 => Sys2Proof.Machine.execUndC3 s
  | .undC7 => Sys2Proof.Machine.execUndC7 s
  | .undCB => Sys2Proof.Machine.execUndCB s
  | .undCF => Sys2Proof.Machine.execUndCF s
  | .undD2 => Sys2Proof.Machine.execUndD2 s
  | .undD3 => Sys2Proof.Machine.execUndD3 s
  | .undD4 => Sys2Proof.Machine.execUndD4 s
  | .undD7 => Sys2Proof.Machine.execUndD7 s
  | .undDA => Sys2Proof.Machine.execUndDA s
  | .undDB => Sys2Proof.Machine.execUndDB s
  | .undDC => Sys2Proof.Machine.execUndDC s
  | .undDF => Sys2Proof.Machine.execUndDF s
  | .undE2 => Sys2Proof.Machine.execUndE2 s
  | .undE3 => Sys2Proof.Machine.execUndE3 s
  | .undE7 => Sys2Proof.Machine.execUndE7 s
  | .undEB => Sys2Proof.Machine.execUndEB s
  | .undEF => Sys2Proof.Machine.execUndEF s
  | .undF2 => Sys2Proof.Machine.execUndF2 s
  | .undF3 => Sys2Proof.Machine.execUndF3 s
  | .undF4 => Sys2Proof.Machine.execUndF4 s
  | .undF7 => Sys2Proof.Machine.execUndF7 s
  | .undFA => Sys2Proof.Machine.execUndFA s
  | .undFB => Sys2Proof.Machine.execUndFB s
  | .undFC => Sys2Proof.Machine.execUndFC s
  | .undFF => Sys2Proof.Machine.execUndFF s

end Sys2Proof.Machine
end

