-- ==== Sys2Proof/Machine/Fetch.lean ====
section
/-! DEFINITION. Fetching an instruction (spec/60_exceptions.md R290 branch 3, spec/40_addressing_modes.md R100): the opcode
byte, then the operand bytes its mode has, each through the memory trait with PC advanced after each. Also the placing of an
instruction's bytes where the next step fetches, for the host's `withFetchWord`. -/

namespace Sys2Proof.Machine

open Sys2Proof.Config

/-- R100: `Fetch()`. -/
def State.fetch (s : State) : Byte × State :=
  let v := s.read8 s.reg.pc
  (v.1, v.2.setPc (v.2.reg.pc + 1))

/-- R81, R290: fetch one whole instruction; the state's PC is then the address of the next sequential instruction. -/
def State.fetchInstr (s : State) : Instr × State :=
  let op := s.fetch
  match (dispatch op.1).mode.length with
  | 1 => ((dispatch op.1).build 0 0, op.2)
  | 2 =>
    let b := op.2.fetch
    ((dispatch op.1).build b.1 0, b.2)
  | _ =>
    let lo := op.2.fetch
    let hi := lo.2.fetch
    ((dispatch op.1).build lo.1 hi.1, hi.2)

/-- Whether a CPU address is backed by memory, so that an instruction byte can be placed there. -/
def State.placeable (s : State) (a : Word) : Bool :=
  match region s.params a with
  | .flat _ | .ram _ | .wram _ | .prg => true
  | .device _ _ | .unmapped => false

/-- Place a byte in the memory behind a CPU address, ROM included (a loader's act, not the machine's). -/
def State.place (s : State) (a : Word) (v : Byte) : State :=
  match region s.params a with
  | .prg =>
    { s with bus := { s.bus with prg := s.bus.prg.set (prgIndex s.bus.mapper s.params.prgBanks a) v } }
  | .flat i => { s with bus := { s.bus with flat := s.bus.flat.set i v } }
  | .ram i => { s with bus := { s.bus with ram := s.bus.ram.set i v } }
  | .wram i => { s with bus := { s.bus with wram := s.bus.wram.set i v } }
  | .device _ _ | .unmapped => s

/-- Place the three bytes of the longest instruction at PC; where PC does not lead to memory, move PC to 0x0200 first. -/
def State.placeInstr (s : State) (b0 b1 b2 : Byte) : State :=
  let here := s.placeable s.reg.pc && s.placeable (s.reg.pc + 1) && s.placeable (s.reg.pc + 2)
  let s := if here then s else s.setPc 0x0200
  ((s.place s.reg.pc b0).place (s.reg.pc + 1) b1).place (s.reg.pc + 2) b2

/-- Take back every interrupt request, so that the next step fetches (R290). -/
def State.withoutRequests (s : State) : State :=
  { s with intc := { nmiPending := false, irqLine := false },
           bus := { s.bus with irqSrcMapper := false, irqSrcExt := false } }

/-- The same, only where a request would be serviced. -/
def State.readyToFetch (s : State) : State :=
  if s.intc.nmiPending || (s.intc.irqLine && !s.reg.p.i) then s.withoutRequests else s

end Sys2Proof.Machine
end

