-- ==== Sys2Proof/Machine/Step.lean ====
section
/-! DEFINITION. R290: one `step()`. It answers a next state always: a step that serviced an interrupt, or one that ran one
instruction. The host's calls come between steps (R60, Sys2Proof/Machine/HostCalls.lean). -/

namespace Sys2Proof.Machine

/-- R290: NMI first, then IRQ where I is clear, else fetch, decode and execute. -/
def step (s : State) : Host.Outcome State Fault Refusal :=
  if s.intc.nmiPending then .next s.serviceNmi
  else if s.intc.irqLine && !s.reg.p.i then .next s.serviceIrq
  else
    let f := s.fetchInstr
    exec f.1 f.2

/-- The state with the instruction whose bits are `w` (of `nbits` bits, zeros above) placed where the next step fetches, and
that step ready to fetch (notes/assumptions/9.md). -/
def State.withFetchWord (s : State) (nbits w : Nat) : State :=
  s.readyToFetch.placeInstr (tableByte nbits w 0) (tableByte nbits w 1) (tableByte nbits w 2)

end Sys2Proof.Machine
end

