-- ==== Sys2Proof/Machine/HostCalls.lean ====
section
/-! DEFINITION. The host's side (spec/70_reset_and_hazards.md R340, R345; spec/50_bus_mapper.md R241, R249, R250;
spec/10_state.md R41): loading a machine, the calls the host may make between steps, the snapshot, and a run as a sequence of
steps and host calls. `step` itself takes no host call (R60). -/

namespace Sys2Proof.Machine

open Sys2Proof.Config

/-! ### Loading (R249, R250) -/

/-- R7: the load arguments. The three `…Init` lists are `RAM_INIT` (D31): any bytes. -/
structure LoadArgs where
  prg : List Byte
  chr : List Byte
  chrWritable : Bool
  wramPresent : Bool
  decimalMode : Bool
  openBus : Byte
  mapper : MapperKind
  mirroring : Mirroring
  ramInit : List Byte
  wramInit : List Byte
  vramInit : List Byte
  deriving DecidableEq, Repr

/-- R249: why a load is refused: there is not one whole bank, and "no running state is possible". -/
inductive LoadError where
  | noPrgBank
  | noChrUnit
  deriving DecidableEq, Repr

/-- R249: the largest power of two not above a positive `n`. -/
def powerOfTwoFloor (n : Nat) : Nat := 2 ^ n.log2

/-- R249: how many banks of `size` bytes an image of `len` bytes gives. -/
def bankCount (len size : Nat) : Nat := powerOfTwoFloor (len / size)

/-- R249: the diagnostic of an image whose size is not the size used. -/
def clampEvents (isPrg : Bool) (len used : Nat) : List DiagEvent :=
  if len = used then [] else [.romClamped isPrg len used]

/-- R250: the fields of a mapper variant after `load`. -/
def Mapper.initial : MapperKind → Mapper
  | .fixed => .fixed
  | .scanlineIrq =>
    .scanlineIrq { bankSelect := 0x00, bankReg := #v[0, 2, 4, 5, 6, 7, 0, 1], irqLatch := 0x00, irqCounter := 0x00,
                   irqEnable := false }
  | .chrLatch =>
    .chrLatch { prgBank := 0x00, chrFd0 := 0x00, chrFd1 := 0x00, chrFe0 := 0x00, chrFe1 := 0x00,
                latch0 := .fe, latch1 := .fe }

/-- R40: the register file after CPU construction, before any `reset()`. -/
def Regs.constructed : Regs := { a := 0x00, x := 0x00, y := 0x00, s := 0xFD, pc := 0x0000, p := Flags.atReset }

/-- R249, R250, R340: `load(...)` and the construction of the CPU on the reference bus. -/
def load (args : LoadArgs) : Except LoadError State :=
  if args.prg.length / prgBankSize = 0 then .error .noPrgBank
  else if args.chr.length / chrUnitSize = 0 then .error .noChrUnit
  else
    let prgBanks := bankCount args.prg.length prgBankSize
    let chrUnits := bankCount args.chr.length chrUnitSize
    .ok
      { reg := Regs.constructed,
        intc := { nmiPending := false, irqLine := false },
        bus :=
          { ram := Memory.ofBytes ramSize args.ramInit, wram := Memory.ofBytes wramSize args.wramInit,
            prg := Memory.ofBytes (prgBanks * prgBankSize) args.prg,
            chr := Memory.ofBytes (chrUnits * chrUnitSize) args.chr,
            vram := Memory.ofBytes vramSize args.vramInit, flat := [],
            irqSrcMapper := false, irqSrcExt := false, mirroring := args.mirroring,
            mapper := Mapper.initial args.mapper, deviceTick := 0 },
        params :=
          { bus := .reference, decimalMode := args.decimalMode, openBus := args.openBus, wramPresent := args.wramPresent,
            prgBanks := prgBanks, chrUnits := chrUnits, chrWritable := args.chrWritable },
        cycles := 0,
        diag := clampEvents true args.prg.length (prgBanks * prgBankSize) ++
          clampEvents false args.chr.length (chrUnits * chrUnitSize) }

/-- The load arguments behind `State.reset`: one bank and eight units of zeros (DESIGN CHOICE, notes/assumptions/3.md). -/
def LoadArgs.atReset : LoadArgs :=
  { prg := List.replicate 8192 0x00, chr := List.replicate 8192 0x00, chrWritable := true, wramPresent := true,
    decimalMode := false, openBus := 0x00, mapper := .fixed, mirroring := .vertical,
    ramInit := [], wramInit := [], vramInit := [] }

/-- R240, R340: a CPU core constructed on a flat 64 KiB RAM that holds these bytes from address 0. -/
def loadFlat (bytes : List Byte) (decimalMode : Bool) : State :=
  { State.reset with
    reg := Regs.constructed,
    bus := { Bus.atReset with flat := Memory.ofBytes flatSize bytes },
    params := { Params.atReset with bus := .flatRam, decimalMode := decimalMode } }

/-! ### The snapshot (R41) -/

/-- R41: "the tuple of everything in rules R20 to R33"; `p` is `StatusByte(0)` (D25), and `chr` is there where CHR is writable. -/
structure Snapshot where
  a : Byte
  x : Byte
  y : Byte
  s : Byte
  pc : Word
  p : Byte
  nmiPending : Bool
  irqLine : Bool
  ram : Memory
  wram : Memory
  vram : Memory
  flat : Memory
  chr : Option Memory
  irqSrcMapper : Bool
  irqSrcExt : Bool
  mirroring : Mirroring
  mapper : Mapper
  deriving DecidableEq, Repr

/-- R41: the snapshot of a state. -/
def State.snapshot (s : State) : Snapshot :=
  { a := s.reg.a, x := s.reg.x, y := s.reg.y, s := s.reg.s, pc := s.reg.pc, p := s.reg.p.statusByte false,
    nmiPending := s.intc.nmiPending, irqLine := s.intc.irqLine,
    ram := s.bus.ram, wram := s.bus.wram, vram := s.bus.vram, flat := s.bus.flat,
    chr := if s.params.chrWritable then some s.bus.chr else none,
    irqSrcMapper := s.bus.irqSrcMapper, irqSrcExt := s.bus.irqSrcExt,
    mirroring := s.bus.mirroring, mapper := s.bus.mapper }

/-- R242: the variant tag of a mapper, which "never changes after load". -/
def Mapper.kind : Mapper → MapperKind
  | .fixed => .fixed
  | .scanlineIrq _ => .scanlineIrq
  | .chrLatch _ => .chrLatch

/-- Whether the IRQ line agrees with its sources: on the reference bus it is their OR (R294); a bare core's line is the host's. -/
def irqAgrees (b : BusKind) (line srcMapper srcExt : Bool) : Bool :=
  match b with
  | .reference => line == (srcMapper || srcExt)
  | .flatRam => true

/-- R41, U14: whether a snapshot is a whole and consistent state of this machine: its memories are in their canonical form, its
mapper is the machine's variant, it holds CHR exactly where CHR is writable, and its IRQ line agrees with its sources. What counts
as inconsistent is the MODEL'S OWN choice (DESIGN CHOICE, unsafe, notes/assumptions/11.md), since U14 does not define it. Among
what it accepts although no state of the machine presents it: any bits 5 and 4 of `p`, and, on a variant that can never reach them
(R252), any `irqSrcMapper` and any `mirroring`. -/
def Snapshot.fits (n : Snapshot) (s : State) : Bool :=
  n.ram.wf ramSize && n.wram.wf wramSize && n.vram.wf vramSize && n.flat.wf flatSize &&
    (match n.chr with
      | some m => s.params.chrWritable && m.wf (s.params.chrUnits * chrUnitSize)
      | none => !s.params.chrWritable) &&
    n.mapper.kind == s.bus.mapper.kind && irqAgrees s.params.bus n.irqLine n.irqSrcMapper n.irqSrcExt

/-- R41: restore: a whole replace, or a refusal (`none`) of a snapshot that does not fit (U14). What is no part of the snapshot
(the parameters, the ROM, the outputs and the model's own device counter) stays the machine's. Bits 5 and 4 of `p` are ignored, as by
PLP and RTI (DESIGN CHOICE, notes/assumptions/11.md). -/
def Snapshot.restore (n : Snapshot) (s : State) : Option State :=
  if n.fits s then
    some
      { s with
        reg := { a := n.a, x := n.x, y := n.y, s := n.s, pc := n.pc, p := Flags.ofStatusByte n.p },
        intc := { nmiPending := n.nmiPending, irqLine := n.irqLine },
        bus :=
          { s.bus with
            ram := n.ram, wram := n.wram, vram := n.vram, flat := n.flat, chr := n.chr.getD s.bus.chr,
            irqSrcMapper := n.irqSrcMapper, irqSrcExt := n.irqSrcExt, mirroring := n.mirroring, mapper := n.mapper } }
  else none

/-! ### The calls between steps (R4, R241, R345) -/

/-- The host calls that may change the state. The calls that only answer are `State.vread` (`chr_read`, `nt_read`) and
`State.snapshot`. -/
inductive HostCall where
  /-- R330 -/
  | reset
  /-- R291 -/
  | assertNmi
  /-- R292, R294: a bare core's host only -/
  | assertIrq
  /-- R292, R294: a bare core's host only -/
  | clearIrq
  /-- R265: the reference bus -/
  | setExtIrq (level : Bool)
  /-- R263 -/
  | notifyScanlineEdge
  /-- R264 -/
  | notifyChrRead (a : Word)
  /-- R259 -/
  | chrWrite (a : Word) (v : Byte)
  /-- R261 -/
  | ntWrite (a : Word) (v : Byte)
  /-- R41 -/
  | restore (n : Snapshot)
  deriving DecidableEq, Repr

/-- R30, R291: `assert_nmi()`. -/
def State.assertNmi (s : State) : State := { s with intc := { s.intc with nmiPending := true } }

/-- R30, R292: `assert_irq()` and `clear_irq()`. -/
def State.setIrqLine (level : Bool) (s : State) : State := { s with intc := { s.intc with irqLine := level } }

/-- R345: one host call; `none` where the call is no part of the machine's interface (R265, R294: the bus calls need the
reference bus, and with it only the bus asserts and clears the IRQ line) or is refused (U14). -/
def State.hostCall (c : HostCall) (s : State) : Option State :=
  match c with
  | .reset => some s.cpuReset
  | .assertNmi => some s.assertNmi
  | .assertIrq => if s.params.bus = .flatRam then some (s.setIrqLine true) else none
  | .clearIrq => if s.params.bus = .flatRam then some (s.setIrqLine false) else none
  | .setExtIrq level => if s.params.bus = .reference then some (s.setExtIrq level) else none
  | .notifyScanlineEdge => if s.params.bus = .reference then some s.notifyScanlineEdge else none
  | .notifyChrRead a => if s.params.bus = .reference then some (s.notifyChrRead a) else none
  | .chrWrite a v => if s.params.bus = .reference then some (s.vwrite a v) else none
  | .ntWrite a v => if s.params.bus = .reference then some (s.vwrite a v) else none
  | .restore n => n.restore s

/-! ### Runs (R345) -/

/-- R345: what happens next: a step, or a host call between two steps. -/
inductive Event where
  | step
  | call (c : HostCall)
  deriving DecidableEq, Repr

/-- One event; `none` where a host call is refused. -/
def State.event (e : Event) (s : State) : Option State :=
  match e with
  | .step => match step s with
    | .next t => some t
    | .fault _ => none
    | .refused _ => none
  | .call c => s.hostCall c

/-- R345: "an arbitrary sequence of these calls interleaved with steps". -/
def State.runEvents : List Event → State → Option State
  | [], s => some s
  | e :: rest, s => (s.event e).bind (State.runEvents rest)

end Sys2Proof.Machine
end

