-- ==== Sys2Proof/Safety.lean ====
section
/-! DEFINITION. The terms in which statements about the machine are written: the invariant of its states, what a store may
change, what it is to hold code, and the forms of each read, store and read-modify-write instruction. -/

namespace Sys2Proof.Machine

open Sys2Proof.Config

/-! ### The invariant -/

/-- R249: the counts are powers of two. -/
def isPowerOfTwo (n : Nat) : Bool := 2 ^ n.log2 == n

/-- What every state of a machine satisfies: each memory is in its canonical form within its size (R32), the bank counts are
powers of two (R249), and on the reference bus the IRQ line is the OR of its sources (R294). -/
def State.wf (s : State) : Bool :=
  s.bus.ram.wf ramSize && s.bus.wram.wf wramSize && s.bus.vram.wf vramSize && s.bus.flat.wf flatSize &&
    s.bus.prg.wf (s.params.prgBanks * prgBankSize) && s.bus.chr.wf (s.params.chrUnits * chrUnitSize) &&
    isPowerOfTwo s.params.prgBanks && isPowerOfTwo s.params.chrUnits &&
    irqAgrees s.params.bus s.intc.irqLine s.bus.irqSrcMapper s.bus.irqSrcExt

/-! ### What an access can touch -/

/-- R245, R246: whether a CPU address is a device register. -/
def State.isDevice (s : State) (a : Word) : Bool :=
  match region s.params a with
  | .device _ _ => true
  | _ => false

/-- R245: whether a CPU address leads to memory that a store changes: RAM, present work RAM, or the flat RAM. -/
def State.isWritable (s : State) (a : Word) : Bool :=
  match region s.params a with
  | .flat _ | .ram _ | .wram _ => true
  | _ => false

/-- R245: whether two CPU addresses name the same byte of writable memory (RAM repeats every 2 KiB). -/
def State.sameCell (s : State) (a b : Word) : Bool := s.isWritable a && region s.params a == region s.params b

/-! ### Code in memory -/

/-- R56, R81: the bytes stand at `pc`, `pc + 1`, …, none of them in a device register, so that reading them changes nothing. -/
def State.holdsCode (s : State) : Word → List Byte → Bool
  | _, [] => true
  | a, b :: rest => !s.isDevice a && s.peek a == b && State.holdsCode s (a + 1) rest

/-- Whether the next step fetches an instruction (R290 branch 3). -/
def State.noInterrupt (s : State) : Bool := !s.intc.nmiPending && !(s.intc.irqLine && !s.reg.p.i)

/-! ### Encodings and instructions together -/

/-- The bytes are exactly the instruction `i`, and with PC past them it takes `s` to `t`. -/
def Runs (bytes : List Byte) (i : Instr) (s t : State) : Prop := decode bytes = .ok (i, []) ∧ exec i s = .next t

/-- One form of an instruction: its encoding, the instruction, its operand and its base cycles, and whether it takes `+p`. -/
structure Form where
  bytes : List Byte
  instr : Instr
  operand : Operand
  cycles : Nat
  penalised : Bool
  deriving DecidableEq, Repr

/-- The operand byte `M` of a form (R11): the byte, and the state after the mode's reads and that read. -/
def Form.operandRead (f : Form) (s : State) : Byte × State := (resolve f.operand s).fetchOperand f.operand

/-- R350: the cycles of a read form. -/
def Form.readCycles (f : Form) (s : State) : Nat :=
  f.cycles + if f.penalised && (resolve f.operand s).crossed then 1 else 0

/-! ### The forms (R84) -/

/-- R84, R121: the forms of ADC, with the operand byte `b` or the operand bytes `lo`, `hi`. -/
def adcForms (b lo hi : Byte) : List Form :=
  [⟨[0x69, b], .adcImm b, .imm b, 2, false⟩,
   ⟨[0x65, b], .adcZp b, .zp b, 3, false⟩,
   ⟨[0x75, b], .adcZpx b, .zpx b, 4, false⟩,
   ⟨[0x6D, lo, hi], .adcAbs (wordOf hi lo), .abs (wordOf hi lo), 4, false⟩,
   ⟨[0x7D, lo, hi], .adcAbx (wordOf hi lo), .abx (wordOf hi lo), 4, true⟩,
   ⟨[0x79, lo, hi], .adcAby (wordOf hi lo), .aby (wordOf hi lo), 4, true⟩,
   ⟨[0x61, b], .adcIzx b, .izx b, 6, false⟩,
   ⟨[0x71, b], .adcIzy b, .izy b, 5, true⟩]

/-- R84, R122: the forms of SBC, with the operand byte `b` or the operand bytes `lo`, `hi`. -/
def sbcForms (b lo hi : Byte) : List Form :=
  [⟨[0xE9, b], .sbcImm b, .imm b, 2, false⟩,
   ⟨[0xE5, b], .sbcZp b, .zp b, 3, false⟩,
   ⟨[0xF5, b], .sbcZpx b, .zpx b, 4, false⟩,
   ⟨[0xED, lo, hi], .sbcAbs (wordOf hi lo), .abs (wordOf hi lo), 4, false⟩,
   ⟨[0xFD, lo, hi], .sbcAbx (wordOf hi lo), .abx (wordOf hi lo), 4, true⟩,
   ⟨[0xF9, lo, hi], .sbcAby (wordOf hi lo), .aby (wordOf hi lo), 4, true⟩,
   ⟨[0xE1, b], .sbcIzx b, .izx b, 6, false⟩,
   ⟨[0xF1, b], .sbcIzy b, .izy b, 5, true⟩]

/-- R84, R141: the forms of AND, with the operand byte `b` or the operand bytes `lo`, `hi`. -/
def andForms (b lo hi : Byte) : List Form :=
  [⟨[0x29, b], .andImm b, .imm b, 2, false⟩,
   ⟨[0x25, b], .andZp b, .zp b, 3, false⟩,
   ⟨[0x35, b], .andZpx b, .zpx b, 4, false⟩,
   ⟨[0x2D, lo, hi], .andAbs (wordOf hi lo), .abs (wordOf hi lo), 4, false⟩,
   ⟨[0x3D, lo, hi], .andAbx (wordOf hi lo), .abx (wordOf hi lo), 4, true⟩,
   ⟨[0x39, lo, hi], .andAby (wordOf hi lo), .aby (wordOf hi lo), 4, true⟩,
   ⟨[0x21, b], .andIzx b, .izx b, 6, false⟩,
   ⟨[0x31, b], .andIzy b, .izy b, 5, true⟩]

/-- R84, R142: the forms of ORA, with the operand byte `b` or the operand bytes `lo`, `hi`. -/
def oraForms (b lo hi : Byte) : List Form :=
  [⟨[0x09, b], .oraImm b, .imm b, 2, false⟩,
   ⟨[0x05, b], .oraZp b, .zp b, 3, false⟩,
   ⟨[0x15, b], .oraZpx b, .zpx b, 4, false⟩,
   ⟨[0x0D, lo, hi], .oraAbs (wordOf hi lo), .abs (wordOf hi lo), 4, false⟩,
   ⟨[0x1D, lo, hi], .oraAbx (wordOf hi lo), .abx (wordOf hi lo), 4, true⟩,
   ⟨[0x19, lo, hi], .oraAby (wordOf hi lo), .aby (wordOf hi lo), 4, true⟩,
   ⟨[0x01, b], .oraIzx b, .izx b, 6, false⟩,
   ⟨[0x11, b], .oraIzy b, .izy b, 5, true⟩]

/-- R84, R143: the forms of EOR, with the operand byte `b` or the operand bytes `lo`, `hi`. -/
def eorForms (b lo hi : Byte) : List Form :=
  [⟨[0x49, b], .eorImm b, .imm b, 2, false⟩,
   ⟨[0x45, b], .eorZp b, .zp b, 3, false⟩,
   ⟨[0x55, b], .eorZpx b, .zpx b, 4, false⟩,
   ⟨[0x4D, lo, hi], .eorAbs (wordOf hi lo), .abs (wordOf hi lo), 4, false⟩,
   ⟨[0x5D, lo, hi], .eorAbx (wordOf hi lo), .abx (wordOf hi lo), 4, true⟩,
   ⟨[0x59, lo, hi], .eorAby (wordOf hi lo), .aby (wordOf hi lo), 4, true⟩,
   ⟨[0x41, b], .eorIzx b, .izx b, 6, false⟩,
   ⟨[0x51, b], .eorIzy b, .izy b, 5, true⟩]

/-- R84, R144: the forms of BIT, with the operand byte `b` or the operand bytes `lo`, `hi`. -/
def bitForms (b lo hi : Byte) : List Form :=
  [⟨[0x24, b], .bitZp b, .zp b, 3, false⟩,
   ⟨[0x2C, lo, hi], .bitAbs (wordOf hi lo), .abs (wordOf hi lo), 4, false⟩]

/-- R84, R151: the forms of CMP, with the operand byte `b` or the operand bytes `lo`, `hi`. -/
def cmpForms (b lo hi : Byte) : List Form :=
  [⟨[0xC9, b], .cmpImm b, .imm b, 2, false⟩,
   ⟨[0xC5, b], .cmpZp b, .zp b, 3, false⟩,
   ⟨[0xD5, b], .cmpZpx b, .zpx b, 4, false⟩,
   ⟨[0xCD, lo, hi], .cmpAbs (wordOf hi lo), .abs (wordOf hi lo), 4, false⟩,
   ⟨[0xDD, lo, hi], .cmpAbx (wordOf hi lo), .abx (wordOf hi lo), 4, true⟩,
   ⟨[0xD9, lo, hi], .cmpAby (wordOf hi lo), .aby (wordOf hi lo), 4, true⟩,
   ⟨[0xC1, b], .cmpIzx b, .izx b, 6, false⟩,
   ⟨[0xD1, b], .cmpIzy b, .izy b, 5, true⟩]

/-- R84, R152: the forms of CPX, with the operand byte `b` or the operand bytes `lo`, `hi`. -/
def cpxForms (b lo hi : Byte) : List Form :=
  [⟨[0xE0, b], .cpxImm b, .imm b, 2, false⟩,
   ⟨[0xE4, b], .cpxZp b, .zp b, 3, false⟩,
   ⟨[0xEC, lo, hi], .cpxAbs (wordOf hi lo), .abs (wordOf hi lo), 4, false⟩]

/-- R84, R153: the forms of CPY, with the operand byte `b` or the operand bytes `lo`, `hi`. -/
def cpyForms (b lo hi : Byte) : List Form :=
  [⟨[0xC0, b], .cpyImm b, .imm b, 2, false⟩,
   ⟨[0xC4, b], .cpyZp b, .zp b, 3, false⟩,
   ⟨[0xCC, lo, hi], .cpyAbs (wordOf hi lo), .abs (wordOf hi lo), 4, false⟩]

/-- R84, R171: the forms of LDA, with the operand byte `b` or the operand bytes `lo`, `hi`. -/
def ldaForms (b lo hi : Byte) : List Form :=
  [⟨[0xA9, b], .ldaImm b, .imm b, 2, false⟩,
   ⟨[0xA5, b], .ldaZp b, .zp b, 3, false⟩,
   ⟨[0xB5, b], .ldaZpx b, .zpx b, 4, false⟩,
   ⟨[0xAD, lo, hi], .ldaAbs (wordOf hi lo), .abs (wordOf hi lo), 4, false⟩,
   ⟨[0xBD, lo, hi], .ldaAbx (wordOf hi lo), .abx (wordOf hi lo), 4, true⟩,
   ⟨[0xB9, lo, hi], .ldaAby (wordOf hi lo), .aby (wordOf hi lo), 4, true⟩,
   ⟨[0xA1, b], .ldaIzx b, .izx b, 6, false⟩,
   ⟨[0xB1, b], .ldaIzy b, .izy b, 5, true⟩]

/-- R84, R172: the forms of LDX, with the operand byte `b` or the operand bytes `lo`, `hi`. -/
def ldxForms (b lo hi : Byte) : List Form :=
  [⟨[0xA2, b], .ldxImm b, .imm b, 2, false⟩,
   ⟨[0xA6, b], .ldxZp b, .zp b, 3, false⟩,
   ⟨[0xB6, b], .ldxZpy b, .zpy b, 4, false⟩,
   ⟨[0xAE, lo, hi], .ldxAbs (wordOf hi lo), .abs (wordOf hi lo), 4, false⟩,
   ⟨[0xBE, lo, hi], .ldxAby (wordOf hi lo), .aby (wordOf hi lo), 4, true⟩]

/-- R84, R173: the forms of LDY, with the operand byte `b` or the operand bytes `lo`, `hi`. -/
def ldyForms (b lo hi : Byte) : List Form :=
  [⟨[0xA0, b], .ldyImm b, .imm b, 2, false⟩,
   ⟨[0xA4, b], .ldyZp b, .zp b, 3, false⟩,
   ⟨[0xB4, b], .ldyZpx b, .zpx b, 4, false⟩,
   ⟨[0xAC, lo, hi], .ldyAbs (wordOf hi lo), .abs (wordOf hi lo), 4, false⟩,
   ⟨[0xBC, lo, hi], .ldyAbx (wordOf hi lo), .abx (wordOf hi lo), 4, true⟩]

/-- R84, R174: the forms of STA, with the operand byte `b` or the operand bytes `lo`, `hi`. -/
def staForms (b lo hi : Byte) : List Form :=
  [⟨[0x85, b], .staZp b, .zp b, 3, false⟩,
   ⟨[0x95, b], .staZpx b, .zpx b, 4, false⟩,
   ⟨[0x8D, lo, hi], .staAbs (wordOf hi lo), .abs (wordOf hi lo), 4, false⟩,
   ⟨[0x9D, lo, hi], .staAbx (wordOf hi lo), .abx (wordOf hi lo), 5, false⟩,
   ⟨[0x99, lo, hi], .staAby (wordOf hi lo), .aby (wordOf hi lo), 5, false⟩,
   ⟨[0x81, b], .staIzx b, .izx b, 6, false⟩,
   ⟨[0x91, b], .staIzy b, .izy b, 6, false⟩]

/-- R84, R175: the forms of STX, with the operand byte `b` or the operand bytes `lo`, `hi`. -/
def stxForms (b lo hi : Byte) : List Form :=
  [⟨[0x86, b], .stxZp b, .zp b, 3, false⟩,
   ⟨[0x96, b], .stxZpy b, .zpy b, 4, false⟩,
   ⟨[0x8E, lo, hi], .stxAbs (wordOf hi lo), .abs (wordOf hi lo), 4, false⟩]

/-- R84, R176: the forms of STY, with the operand byte `b` or the operand bytes `lo`, `hi`. -/
def styForms (b lo hi : Byte) : List Form :=
  [⟨[0x84, b], .styZp b, .zp b, 3, false⟩,
   ⟨[0x94, b], .styZpx b, .zpx b, 4, false⟩,
   ⟨[0x8C, lo, hi], .styAbs (wordOf hi lo), .abs (wordOf hi lo), 4, false⟩]

/-- R84, R131: the memory forms of INC, with the operand byte `b` or the operand bytes `lo`, `hi`. -/
def incForms (b lo hi : Byte) : List Form :=
  [⟨[0xE6, b], .incZp b, .zp b, 5, false⟩,
   ⟨[0xF6, b], .incZpx b, .zpx b, 6, false⟩,
   ⟨[0xEE, lo, hi], .incAbs (wordOf hi lo), .abs (wordOf hi lo), 6, false⟩,
   ⟨[0xFE, lo, hi], .incAbx (wordOf hi lo), .abx (wordOf hi lo), 7, false⟩]

/-- R84, R132: the memory forms of DEC, with the operand byte `b` or the operand bytes `lo`, `hi`. -/
def decForms (b lo hi : Byte) : List Form :=
  [⟨[0xC6, b], .decZp b, .zp b, 5, false⟩,
   ⟨[0xD6, b], .decZpx b, .zpx b, 6, false⟩,
   ⟨[0xCE, lo, hi], .decAbs (wordOf hi lo), .abs (wordOf hi lo), 6, false⟩,
   ⟨[0xDE, lo, hi], .decAbx (wordOf hi lo), .abx (wordOf hi lo), 7, false⟩]

/-- R84, R161: the memory forms of ASL, with the operand byte `b` or the operand bytes `lo`, `hi`. -/
def aslForms (b lo hi : Byte) : List Form :=
  [⟨[0x06, b], .aslZp b, .zp b, 5, false⟩,
   ⟨[0x16, b], .aslZpx b, .zpx b, 6, false⟩,
   ⟨[0x0E, lo, hi], .aslAbs (wordOf hi lo), .abs (wordOf hi lo), 6, false⟩,
   ⟨[0x1E, lo, hi], .aslAbx (wordOf hi lo), .abx (wordOf hi lo), 7, false⟩]

/-- R84, R162: the memory forms of LSR, with the operand byte `b` or the operand bytes `lo`, `hi`. -/
def lsrForms (b lo hi : Byte) : List Form :=
  [⟨[0x46, b], .lsrZp b, .zp b, 5, false⟩,
   ⟨[0x56, b], .lsrZpx b, .zpx b, 6, false⟩,
   ⟨[0x4E, lo, hi], .lsrAbs (wordOf hi lo), .abs (wordOf hi lo), 6, false⟩,
   ⟨[0x5E, lo, hi], .lsrAbx (wordOf hi lo), .abx (wordOf hi lo), 7, false⟩]

/-- R84, R163: the memory forms of ROL, with the operand byte `b` or the operand bytes `lo`, `hi`. -/
def rolForms (b lo hi : Byte) : List Form :=
  [⟨[0x26, b], .rolZp b, .zp b, 5, false⟩,
   ⟨[0x36, b], .rolZpx b, .zpx b, 6, false⟩,
   ⟨[0x2E, lo, hi], .rolAbs (wordOf hi lo), .abs (wordOf hi lo), 6, false⟩,
   ⟨[0x3E, lo, hi], .rolAbx (wordOf hi lo), .abx (wordOf hi lo), 7, false⟩]

/-- R84, R164: the memory forms of ROR, with the operand byte `b` or the operand bytes `lo`, `hi`. -/
def rorForms (b lo hi : Byte) : List Form :=
  [⟨[0x66, b], .rorZp b, .zp b, 5, false⟩,
   ⟨[0x76, b], .rorZpx b, .zpx b, 6, false⟩,
   ⟨[0x6E, lo, hi], .rorAbs (wordOf hi lo), .abs (wordOf hi lo), 6, false⟩,
   ⟨[0x7E, lo, hi], .rorAbx (wordOf hi lo), .abx (wordOf hi lo), 7, false⟩]

/-- R115: the read instructions, in every mode. -/
def readForms (b lo hi : Byte) : List Form :=
  adcForms b lo hi ++ sbcForms b lo hi ++ andForms b lo hi ++ oraForms b lo hi ++ eorForms b lo hi ++ bitForms b lo hi ++
    cmpForms b lo hi ++ cpxForms b lo hi ++ cpyForms b lo hi ++ ldaForms b lo hi ++ ldxForms b lo hi ++ ldyForms b lo hi

/-- R115: the store instructions, in every mode. -/
def storeForms (b lo hi : Byte) : List Form := staForms b lo hi ++ stxForms b lo hi ++ styForms b lo hi

/-- R115: the read-modify-write instructions, in every memory mode. -/
def modifyForms (b lo hi : Byte) : List Form :=
  incForms b lo hi ++ decForms b lo hi ++ aslForms b lo hi ++ lsrForms b lo hi ++ rolForms b lo hi ++ rorForms b lo hi

/-- One branch: its opcode, the instruction, and whether it is taken. -/
structure BranchForm where
  opcode : Byte
  instr : Instr
  taken : Bool
  deriving DecidableEq, Repr

/-- R215 to R222: the eight branches with the displacement byte `b`, under the flags `p`. -/
def branchForms (b : Byte) (p : Flags) : List BranchForm :=
  [⟨0x90, .bcc b, !p.c⟩, ⟨0xB0, .bcs b, p.c⟩, ⟨0xF0, .beq b, p.z⟩, ⟨0xD0, .bne b, !p.z⟩,
   ⟨0x30, .bmi b, p.n⟩, ⟨0x10, .bpl b, !p.n⟩, ⟨0x50, .bvc b, !p.v⟩, ⟨0x70, .bvs b, p.v⟩]

/-- R86: the 105 undefined opcodes. -/
def undefinedForms : List (Byte × Instr) :=
  [(0x02, .und02), (0x03, .und03), (0x04, .und04), (0x07, .und07), (0x0B, .und0B),
   (0x0C, .und0C), (0x0F, .und0F), (0x12, .und12), (0x13, .und13), (0x14, .und14),
   (0x17, .und17), (0x1A, .und1A), (0x1B, .und1B), (0x1C, .und1C), (0x1F, .und1F),
   (0x22, .und22), (0x23, .und23), (0x27, .und27), (0x2B, .und2B), (0x2F, .und2F),
   (0x32, .und32), (0x33, .und33), (0x34, .und34), (0x37, .und37), (0x3A, .und3A),
   (0x3B, .und3B), (0x3C, .und3C), (0x3F, .und3F), (0x42, .und42), (0x43, .und43),
   (0x44, .und44), (0x47, .und47), (0x4B, .und4B), (0x4F, .und4F), (0x52, .und52),
   (0x53, .und53), (0x54, .und54), (0x57, .und57), (0x5A, .und5A), (0x5B, .und5B),
   (0x5C, .und5C), (0x5F, .und5F), (0x62, .und62), (0x63, .und63), (0x64, .und64),
   (0x67, .und67), (0x6B, .und6B), (0x6F, .und6F), (0x72, .und72), (0x73, .und73),
   (0x74, .und74), (0x77, .und77), (0x7A, .und7A), (0x7B, .und7B), (0x7C, .und7C),
   (0x7F, .und7F), (0x80, .und80), (0x82, .und82), (0x83, .und83), (0x87, .und87),
   (0x89, .und89), (0x8B, .und8B), (0x8F, .und8F), (0x92, .und92), (0x93, .und93),
   (0x97, .und97), (0x9B, .und9B), (0x9C, .und9C), (0x9E, .und9E), (0x9F, .und9F),
   (0xA3, .undA3), (0xA7, .undA7), (0xAB, .undAB), (0xAF, .undAF), (0xB2, .undB2),
   (0xB3, .undB3), (0xB7, .undB7), (0xBB, .undBB), (0xBF, .undBF), (0xC2, .undC2),
   (0xC3, .undC3), (0xC7, .undC7), (0xCB, .undCB), (0xCF, .undCF), (0xD2, .undD2),
   (0xD3, .undD3), (0xD4, .undD4), (0xD7, .undD7), (0xDA, .undDA), (0xDB, .undDB),
   (0xDC, .undDC), (0xDF, .undDF), (0xE2, .undE2), (0xE3, .undE3), (0xE7, .undE7),
   (0xEB, .undEB), (0xEF, .undEF), (0xF2, .undF2), (0xF3, .undF3), (0xF4, .undF4),
   (0xF7, .undF7), (0xFA, .undFA), (0xFB, .undFB), (0xFC, .undFC), (0xFF, .undFF)]

/-! ### What a store changes -/

/-- Two states of the machine that differ at most in the outputs `cycles` and `diag` (R312, R350). -/
def State.sameMachine (s t : State) : Prop := t.reg = s.reg ∧ t.intc = s.intc ∧ t.bus = s.bus ∧ t.params = s.params

/-- The store to `ea` that takes `s` to `t` changes no byte that the CPU reads but the one it stores to. Where `ea` is a mapper
control register it stores no byte, but may change which PRG bank stands in a window (R253): there the bytes of the PRG windows
are those of the unchanged PRG, in the windows of the new mapper state. -/
def StoresOnly (s t : State) (ea : Word) : Prop :=
  (∀ a, s.sameCell ea a = false → (region s.params ea ≠ .prg ∨ region s.params a ≠ .prg) → t.peek a = s.peek a) ∧
    t.bus.prg = s.bus.prg ∧ t.params = s.params ∧ t.intc.nmiPending = s.intc.nmiPending

/-- Of the whole bus and all parameters, `t` differs from `s` at most in the stack bytes at these addresses. -/
def StoresInStack (s t : State) (stored : List Word) : Prop :=
  (∀ a, (∀ x ∈ stored, s.sameCell x a = false) → t.peek a = s.peek a) ∧
    t.bus = { s.bus with ram := t.bus.ram, flat := t.bus.flat } ∧ t.params = s.params

/-- R296: what `Interrupt(vector, b)` with the return address `r` does. -/
def EntersInterrupt (s t : State) (vector : Word) (b : Bool) (r : Word) : Prop :=
  t.reg =
      { s.reg with
        s := s.reg.s - 3, p := { s.reg.p with i := true }, pc := wordOf (s.peek (vector + 1)) (s.peek vector) } ∧
    t.peek (stackAddr s.reg.s) = highByte r ∧ t.peek (stackAddr (s.reg.s - 1)) = lowByte r ∧
    t.peek (stackAddr (s.reg.s - 2)) = s.reg.p.statusByte b ∧
    StoresInStack s t [stackAddr s.reg.s, stackAddr (s.reg.s - 1), stackAddr (s.reg.s - 2)]

end Sys2Proof.Machine
end

