-- ==== Sys2Proof/Certificates/Slice0/Obligations.lean ====
section
/-! DEFINITION. The statements for the provers, each named for what it says. A statement about an instruction says it of the state
that exec is given, in which PC is already past the instruction's bytes (R100); `Obligations.StepRunsTheDecodedInstruction` carries
it to a step. -/

open Sys2Proof Sys2Proof.Machine Sys2Proof.Config

/-! ### Encoding (spec/30_encoding.md) -/

/-- R80, R81, R83 to R86: every instruction, with every operand, is read back from its encoding, whatever bytes follow. -/
def Obligations.DecodeOfEncode : Prop :=
  ∀ (i : Instr) (rest : List Byte), i.wf = true → decode (encode i ++ rest) = .ok (i, rest)

/-- R80, R81, R82: any three bytes begin with exactly one instruction, as long as its first byte alone says, and the encoder gives
those bytes back; so no two instructions share an encoding and no byte is refused. -/
def Obligations.EveryOpcodeDecodes : Prop :=
  ∀ op lo hi : Byte, ∃ i rest,
    decode [op, lo, hi] = .ok (i, rest) ∧ encode i ++ rest = [op, lo, hi] ∧ (encode i).length = opcodeLength op ∧
      wfBytes (encode i) = true ∧ ∀ bytes, decode bytes = .ok (i, []) ↔ bytes = encode i

/-- R84, R52: a few words written out from R84, operands low byte first. -/
def Obligations.WordsDecodeAsTheTableSays : Prop :=
  decode [0x6D, 0x34, 0x12] = .ok (.adcAbs 0x1234, []) ∧ decode [0xB1, 0x10] = .ok (.ldaIzy 0x10, []) ∧
    decode [0x6C, 0xFF, 0x30] = .ok (.jmpInd 0x30FF, []) ∧ decode [0x96, 0xFF] = .ok (.stxZpy 0xFF, []) ∧
    decode [0xD0, 0xFE] = .ok (.bne 0xFE, []) ∧ decode [0x0A] = .ok (.aslAcc, []) ∧ decode [0x00] = .ok (.brk, []) ∧
    decode [0xC9, 0x10] = .ok (.cmpImm 0x10, []) ∧ decode [0x28] = .ok (.plp, []) ∧ decode [0x02] = .ok (.und02, [])

/-! ### The step (spec/60_exceptions.md R290 to R300, spec/49_system.md) -/

/-- R290 branch 3, R81, R100: where no interrupt is taken and the bytes at PC, in memory, are exactly the instruction `i`, the
step is `exec i` with PC past them. The rule of R290 adds nothing around it. -/
def Obligations.StepRunsTheDecodedInstruction : Prop :=
  ∀ (s : State) (bytes : List Byte) (i : Instr),
    s.noInterrupt = true → s.holdsCode s.reg.pc bytes = true → decode bytes = .ok (i, []) → i.wf = true →
      step s = exec i (s.setPc (s.reg.pc + BitVec.ofNat 16 bytes.length))

/-- R290, R300: no step and no instruction stops: each answers a next state, from every state, and the count it returns is from
2 to 7 (R350). -/
def Obligations.EveryStepCompletes : Prop :=
  (∀ s : State, ∃ t, step s = .next t ∧ 2 ≤ t.cycles ∧ t.cycles ≤ 7) ∧
    ∀ (i : Instr) (s : State), ∃ t, exec i s = .next t ∧ 2 ≤ t.cycles ∧ t.cycles ≤ 7

/-- R350: the cycles of every instruction are its base count in the table, and above it only the page-cross cycle where the table
gives the opcode `+p`, or the one or two cycles of a branch. -/
def Obligations.CyclesAreTheTablesCounts : Prop :=
  ∀ (i : Instr) (s t : State), exec i s = .next t →
    (dispatch ((encode i).headD 0x00)).cycles ≤ t.cycles ∧
      t.cycles ≤ (dispatch ((encode i).headD 0x00)).cycles +
        (if (dispatch ((encode i).headD 0x00)).pagePenalty then 1
         else if (dispatch ((encode i).headD 0x00)).mode = .rel then 2 else 0)

/-- R290 branches 1 and 2, R297, R298: a pending NMI is serviced whatever I is; without one, an asserted IRQ line is serviced where
I is clear. Each takes 7 cycles. -/
def Obligations.InterruptServiceEntersTheHandler : Prop :=
  ∀ s : State, s.wf = true →
    (s.intc.nmiPending = true → ∃ t, step s = .next t ∧ EntersInterrupt s t nmiVector false s.reg.pc ∧
      t.intc = { s.intc with nmiPending := false } ∧ t.cycles = 7 ∧ t.diag = s.diag ++ [.nmiServiced s.reg.pc]) ∧
    (s.intc.nmiPending = false → s.intc.irqLine = true → s.reg.p.i = false →
      ∃ t, step s = .next t ∧ EntersInterrupt s t irqVector false s.reg.pc ∧
        t.intc = s.intc ∧ t.cycles = 7 ∧ t.diag = s.diag ++ [.irqServiced s.reg.pc])

/-- R293, R295, R331: with both requests pending the step services the NMI and leaves the IRQ pending but masked; a masked IRQ is
not serviced; and right after `reset()` the step fetches, unless an NMI is asserted before it. -/
def Obligations.InterruptPriority : Prop :=
  (∀ s : State, s.intc.nmiPending = true → s.intc.irqLine = true →
    ∃ t, step s = .next t ∧ t.reg.pc = wordOf (s.peek 0xFFFB) (s.peek 0xFFFA) ∧ t.intc.nmiPending = false ∧
      t.intc.irqLine = true ∧ t.noInterrupt = true) ∧
  (∀ s : State, s.intc.nmiPending = false → s.reg.p.i = true → step s = exec s.fetchInstr.1 s.fetchInstr.2) ∧
  ∀ s : State, s.cpuReset.noInterrupt = true ∧
    ∃ t, step s.cpuReset.assertNmi = .next t ∧ t.reg.pc = wordOf (s.peek 0xFFFB) (s.peek 0xFFFA) ∧ t.reg.s = 0xFA

/-- R299, R296, R231: RTI straight after the service of an interrupt gives every register and flag back, and the three stack bytes
are all the memory that has changed. -/
def Obligations.ReturnUndoesAnInterrupt : Prop :=
  ∀ s t : State, s.wf = true → s.noInterrupt = false → step s = .next t →
    ∃ u, exec .rti t = .next u ∧ u.reg = s.reg ∧ u.intc.irqLine = s.intc.irqLine ∧ u.intc.nmiPending = false ∧
      StoresInStack s u [stackAddr s.reg.s, stackAddr (s.reg.s - 1), stackAddr (s.reg.s - 2)]

/-- R230: BRK. PC is here PC0 + 1, so the address pushed is PC0 + 2; the image pushed has the break bit and the old I. -/
def Obligations.BrkTakesTheInterruptEntry : Prop :=
  ∀ s : State, s.wf = true →
    ∃ t, Runs [0x00] .brk s t ∧ EntersInterrupt s t irqVector true (s.reg.pc + 1) ∧ t.intc = s.intc ∧ t.cycles = 7 ∧
      t.diag = s.diag ++ [.brk (s.reg.pc - 1)]

/-- R231: RTI. -/
def Obligations.RtiRestoresFlagsAndPc : Prop :=
  ∀ s : State, Runs [0x40] .rti s
    { s with
      reg :=
        { s.reg with
          s := s.reg.s + 3, p := Flags.ofStatusByte (s.peek (stackAddr (s.reg.s + 1))),
          pc := wordOf (s.peek (stackAddr (s.reg.s + 3))) (s.peek (stackAddr (s.reg.s + 2))) },
      cycles := 6 }

/-- R232, R86: the 105 undefined opcodes, and that they are all the opcodes that are not official. -/
def Obligations.UndefinedOpcodesDoNothing : Prop :=
  (∀ (s : State) (x : Byte × Instr), x ∈ undefinedForms →
    Runs [x.1] x.2 s { s with cycles := 2, diag := s.diag ++ [.undefinedOpcode (s.reg.pc - 1) x.1] }) ∧
  undefinedForms.length = 105 ∧ ∀ op : Byte, (dispatch op).official = false ↔ op ∈ undefinedForms.map Prod.fst

/-! ### Reset and loading (spec/70_reset_and_hazards.md, spec/50_bus_mapper.md R249, R250) -/

/-- R330: `reset()` from any state. -/
def Obligations.ResetSetsRegistersAndReadsTheVector : Prop :=
  ∀ s : State, s.hostCall .reset = some
    { s with
      reg :=
        { a := 0x00, x := 0x00, y := 0x00, s := 0xFD, pc := wordOf (s.peek 0xFFFD) (s.peek 0xFFFC),
          p := { n := false, v := false, d := false, i := true, z := false, c := false } },
      intc := { s.intc with nmiPending := false } }

/-- `State.reset` is a loaded machine after `reset()`. The load arguments are the MODEL'S OWN choice (notes/assumptions/3.md). -/
def Obligations.ResetStateIsLoadThenReset : Prop :=
  ∃ s : State, load LoadArgs.atReset = .ok s ∧ s.hostCall .reset = some State.reset

/-- R249, R250, R40: when a load is refused, and what a load that is not refused gives: the memories, the parameters given, the
load-time values of the mapper, and the registers and interrupt flags as constructed. The names of the two errors, which of them
comes first, and the order of the two diagnostic events are the MODEL'S OWN choice (notes/assumptions/20.md), as is taking A, X, Y
and the flags after construction as R40's values, which R40 lets a model leave unwritten (notes/assumptions/12.md). -/
def Obligations.LoadClampsAndInitialises : Prop :=
  ∀ args : LoadArgs,
    (args.prg.length < 8192 → load args = .error .noPrgBank) ∧
    (8192 ≤ args.prg.length → args.chr.length < 1024 → load args = .error .noChrUnit) ∧
    (8192 ≤ args.prg.length → 1024 ≤ args.chr.length → ∃ s, load args = .ok s ∧ s.wf = true ∧
      s.params.bus = .reference ∧ s.params.decimalMode = args.decimalMode ∧ s.params.openBus = args.openBus ∧
      s.params.wramPresent = args.wramPresent ∧ s.params.chrWritable = args.chrWritable ∧
      s.reg =
        { a := 0x00, x := 0x00, y := 0x00, s := 0xFD, pc := 0x0000,
          p := { n := false, v := false, d := false, i := true, z := false, c := false } } ∧
      s.intc = { nmiPending := false, irqLine := false } ∧
      isPowerOfTwo s.params.prgBanks = true ∧ s.params.prgBanks * 8192 ≤ args.prg.length ∧
      args.prg.length < 2 * s.params.prgBanks * 8192 ∧
      isPowerOfTwo s.params.chrUnits = true ∧ s.params.chrUnits * 1024 ≤ args.chr.length ∧
      args.chr.length < 2 * s.params.chrUnits * 1024 ∧
      (∀ k, k < s.params.prgBanks * 8192 → some (s.bus.prg.get k) = args.prg[k]?) ∧
      (∀ k, k < s.params.chrUnits * 1024 → some (s.bus.chr.get k) = args.chr[k]?) ∧
      s.diag =
        (if args.prg.length = s.params.prgBanks * 8192 then []
          else [.romClamped true args.prg.length (s.params.prgBanks * 8192)]) ++
        (if args.chr.length = s.params.chrUnits * 1024 then []
          else [.romClamped false args.chr.length (s.params.chrUnits * 1024)]) ∧
      (∀ k, k < 2048 → k < args.ramInit.length → some (s.bus.ram.get k) = args.ramInit[k]?) ∧
      (∀ k, k < 8192 → k < args.wramInit.length → some (s.bus.wram.get k) = args.wramInit[k]?) ∧
      (∀ k, k < 2048 → k < args.vramInit.length → some (s.bus.vram.get k) = args.vramInit[k]?) ∧
      s.bus.mirroring = args.mirroring ∧ s.bus.irqSrcMapper = false ∧ s.bus.irqSrcExt = false ∧
      s.bus.mapper =
        (match args.mapper with
          | .fixed => .fixed
          | .scanlineIrq => .scanlineIrq ⟨0x00, #v[0, 2, 4, 5, 6, 7, 0, 1], 0x00, 0x00, false⟩
          | .chrLatch => .chrLatch ⟨0x00, 0x00, 0x00, 0x00, 0x00, .fe, .fe⟩))

/-! ### Addressing modes (spec/40_addressing_modes.md) -/

/-- R104, R105, R106: the zero-page modes wrap inside page 0, read nothing and never cross a page. -/
def Obligations.ZeroPageModesWrap : Prop :=
  ∀ (b : Byte) (s : State),
    ((resolve (.zp b) s).ea.toNat = b.toNat ∧ (resolve (.zp b) s).crossed = false ∧ (resolve (.zp b) s).state = s) ∧
    ((resolve (.zpx b) s).ea.toNat = (b.toNat + s.reg.x.toNat) % 256 ∧ (resolve (.zpx b) s).crossed = false ∧
      (resolve (.zpx b) s).state = s) ∧
    ((resolve (.zpy b) s).ea.toNat = (b.toNat + s.reg.y.toNat) % 256 ∧ (resolve (.zpy b) s).crossed = false ∧
      (resolve (.zpy b) s).state = s)

/-- R107, R108, R109: the absolute modes; the sum wraps modulo 65536, and `crossed` says that the page differs from the base's. -/
def Obligations.AbsoluteModesWrapAndCross : Prop :=
  ∀ (hi lo : Byte) (s : State),
    ((resolve (.abs (wordOf hi lo)) s).ea.toNat = hi.toNat * 256 + lo.toNat ∧
      (resolve (.abs (wordOf hi lo)) s).crossed = false ∧ (resolve (.abs (wordOf hi lo)) s).state = s) ∧
    ((resolve (.abx (wordOf hi lo)) s).ea.toNat = (hi.toNat * 256 + lo.toNat + s.reg.x.toNat) % 65536 ∧
      ((resolve (.abx (wordOf hi lo)) s).crossed = true ↔ 256 ≤ lo.toNat + s.reg.x.toNat) ∧
      (resolve (.abx (wordOf hi lo)) s).state = s) ∧
    ((resolve (.aby (wordOf hi lo)) s).ea.toNat = (hi.toNat * 256 + lo.toNat + s.reg.y.toNat) % 65536 ∧
      ((resolve (.aby (wordOf hi lo)) s).crossed = true ↔ 256 ≤ lo.toNat + s.reg.y.toNat) ∧
      (resolve (.aby (wordOf hi lo)) s).state = s)

/-- R110, R111, R112: the modes through a pointer. A pointer's second byte comes from the same page: page 0 for IZX and IZY, the
pointer's own page for IND. A pointer in page 0 is plain memory, so reading it has no side effect; so is the pointer of IND where
neither of its bytes is a device register. -/
def Obligations.PointerModesStayOnOnePage : Prop :=
  ∀ (b : Byte) (s : State),
    resolve (.izx b) s =
      ⟨wordOf (s.peek (zeroPage (b + s.reg.x + 1))) (s.peek (zeroPage (b + s.reg.x))), false, s⟩ ∧
    ((resolve (.izy b) s).ea.toNat =
        ((s.peek (zeroPage (b + 1))).toNat * 256 + (s.peek (zeroPage b)).toNat + s.reg.y.toNat) % 65536 ∧
      ((resolve (.izy b) s).crossed = true ↔ 256 ≤ (s.peek (zeroPage b)).toNat + s.reg.y.toNat) ∧
      (resolve (.izy b) s).state = s) ∧
    ∀ hi lo : Byte, s.isDevice (wordOf hi lo) = false → s.isDevice (wordOf hi (lo + 1)) = false →
      resolve (.ind (wordOf hi lo)) s = ⟨wordOf (s.peek (wordOf hi (lo + 1))) (s.peek (wordOf hi lo)), false, s⟩

/-! ### Arithmetic (spec/41_arithmetic.md, spec/42_incdec.md, spec/44_compare.md) -/

/-- R121: ADC, binary, in every mode: the new A and C are the exact sum, V is signed overflow, and nothing else changes but what
the reads of the mode and of the operand did. -/
def Obligations.AdcIsTheExactSum : Prop :=
  ∀ (b lo hi : Byte) (s : State) (f : Form), f ∈ adcForms b lo hi → (s.reg.p.d && s.params.decimalMode) = false →
    ∃ (a : Byte) (p : Flags),
      Runs f.bytes f.instr s
        { (f.operandRead s).2 with reg := { s.reg with a := a, p := p }, cycles := f.readCycles s } ∧
      a.toNat + 256 * p.c.toNat = s.reg.a.toNat + (f.operandRead s).1.toNat + s.reg.p.c.toNat ∧
      (p.v = true ↔ s.reg.a.toInt + (f.operandRead s).1.toInt + (s.reg.p.c.toNat : Int) < -128 ∨
        127 < s.reg.a.toInt + (f.operandRead s).1.toInt + (s.reg.p.c.toNat : Int)) ∧
      (p.z = true ↔ a = 0) ∧ (p.n = true ↔ 128 ≤ a.toNat) ∧ p.d = s.reg.p.d ∧ p.i = s.reg.p.i

/-- R122: SBC, binary, in every mode: C is the inverted borrow of the exact difference, V is signed overflow. -/
def Obligations.SbcIsTheExactDifference : Prop :=
  ∀ (b lo hi : Byte) (s : State) (f : Form), f ∈ sbcForms b lo hi → (s.reg.p.d && s.params.decimalMode) = false →
    ∃ (a : Byte) (p : Flags),
      Runs f.bytes f.instr s
        { (f.operandRead s).2 with reg := { s.reg with a := a, p := p }, cycles := f.readCycles s } ∧
      (a.toNat : Int) + 256 * (p.c.toNat : Int) =
        (s.reg.a.toNat : Int) - (f.operandRead s).1.toNat - (1 - (s.reg.p.c.toNat : Int)) + 256 ∧
      (p.v = true ↔ s.reg.a.toInt - (f.operandRead s).1.toInt - (1 - (s.reg.p.c.toNat : Int)) < -128 ∨
        127 < s.reg.a.toInt - (f.operandRead s).1.toInt - (1 - (s.reg.p.c.toNat : Int))) ∧
      (p.z = true ↔ a = 0) ∧ (p.n = true ↔ 128 ≤ a.toNat) ∧ p.d = s.reg.p.d ∧ p.i = s.reg.p.i

/-- R123: ADC with `DECIMAL_MODE` and D set, in every mode and for every operand, valid decimal or not. -/
def Obligations.AdcDecimalCorrectsDigits : Prop :=
  ∀ (b lo hi : Byte) (s : State) (f : Form) (al t : Nat) (ts : Int), f ∈ adcForms b lo hi →
    s.reg.p.d = true → s.params.decimalMode = true →
    al = (if 10 ≤ s.reg.a.toNat % 16 + (f.operandRead s).1.toNat % 16 + s.reg.p.c.toNat
      then (s.reg.a.toNat % 16 + (f.operandRead s).1.toNat % 16 + s.reg.p.c.toNat + 6) % 16 + 16
      else s.reg.a.toNat % 16 + (f.operandRead s).1.toNat % 16 + s.reg.p.c.toNat) →
    t = s.reg.a.toNat / 16 * 16 + (f.operandRead s).1.toNat / 16 * 16 + al →
    ts = (s.reg.a &&& 0xF0).toInt + ((f.operandRead s).1 &&& 0xF0).toInt + (al : Int) →
    ∃ (a : Byte) (p : Flags),
      Runs f.bytes f.instr s
        { (f.operandRead s).2 with reg := { s.reg with a := a, p := p }, cycles := f.readCycles s } ∧
      a.toNat = (if 160 ≤ t then t + 96 else t) % 256 ∧ (p.c = true ↔ 160 ≤ t) ∧ (p.n = true ↔ 128 ≤ t % 256) ∧
      (p.v = true ↔ ts < -128 ∨ 127 < ts) ∧
      (p.z = true ↔ (s.reg.a.toNat + (f.operandRead s).1.toNat + s.reg.p.c.toNat) % 256 = 0) ∧
      p.d = s.reg.p.d ∧ p.i = s.reg.p.i

/-- R124: SBC with `DECIMAL_MODE` and D set: the flags are those of the binary difference, A is the decimal one. -/
def Obligations.SbcDecimalCorrectsDigits : Prop :=
  ∀ (b lo hi : Byte) (s : State) (f : Form) (al t : Int), f ∈ sbcForms b lo hi →
    s.reg.p.d = true → s.params.decimalMode = true →
    al = (if ((s.reg.a.toNat % 16 : Nat) : Int) - ((f.operandRead s).1.toNat % 16 : Nat) + s.reg.p.c.toNat - 1 < 0
      then (((s.reg.a.toNat % 16 : Nat) : Int) - ((f.operandRead s).1.toNat % 16 : Nat) + s.reg.p.c.toNat - 1 - 6) % 16 - 16
      else ((s.reg.a.toNat % 16 : Nat) : Int) - ((f.operandRead s).1.toNat % 16 : Nat) + s.reg.p.c.toNat - 1) →
    t = ((s.reg.a.toNat / 16 * 16 : Nat) : Int) - ((f.operandRead s).1.toNat / 16 * 16 : Nat) + al →
    ∃ (a : Byte) (p : Flags) (d : Int),
      Runs f.bytes f.instr s
        { (f.operandRead s).2 with reg := { s.reg with a := a, p := p }, cycles := f.readCycles s } ∧
      (a.toNat : Int) = (if t < 0 then t - 96 else t) % 256 ∧
      d = (s.reg.a.toNat : Int) - (f.operandRead s).1.toNat - (1 - (s.reg.p.c.toNat : Int)) ∧
      (p.c = true ↔ 0 ≤ d) ∧ (p.z = true ↔ d % 256 = 0) ∧ (p.n = true ↔ 128 ≤ d % 256) ∧
      (p.v = true ↔ s.reg.a.toInt - (f.operandRead s).1.toInt - (1 - (s.reg.p.c.toNat : Int)) < -128 ∨
        127 < s.reg.a.toInt - (f.operandRead s).1.toInt - (1 - (s.reg.p.c.toNat : Int))) ∧
      p.d = s.reg.p.d ∧ p.i = s.reg.p.i

/-- R123, R124: on valid two-digit decimal numbers the decimal mode adds and subtracts them as such, with carry and borrow. -/
def Obligations.DecimalModeCountsInTens : Prop :=
  ∀ (s : State) (m : Byte), s.reg.p.d = true → s.params.decimalMode = true →
    s.reg.a.toNat % 16 < 10 → s.reg.a.toNat / 16 < 10 → m.toNat % 16 < 10 → m.toNat / 16 < 10 →
    (∃ t, exec (.adcImm m) s = .next t ∧ t.reg.a.toNat % 16 < 10 ∧ t.reg.a.toNat / 16 < 10 ∧
      t.reg.a.toNat / 16 * 10 + t.reg.a.toNat % 16 + 100 * t.reg.p.c.toNat =
        s.reg.a.toNat / 16 * 10 + s.reg.a.toNat % 16 + (m.toNat / 16 * 10 + m.toNat % 16) + s.reg.p.c.toNat) ∧
    ∃ t, exec (.sbcImm m) s = .next t ∧ t.reg.a.toNat % 16 < 10 ∧ t.reg.a.toNat / 16 < 10 ∧
      t.reg.a.toNat / 16 * 10 + t.reg.a.toNat % 16 + (m.toNat / 16 * 10 + m.toNat % 16) + 1 + 100 * t.reg.p.c.toNat =
        s.reg.a.toNat / 16 * 10 + s.reg.a.toNat % 16 + 100 + s.reg.p.c.toNat

/-- R150 to R153: CMP, CPX and CPY, in every mode: C says that the register is not below the operand, Z that they are equal, N is
bit 7 of the difference; nothing else changes but what the reads did. -/
def Obligations.ComparesWriteCarryZeroNegative : Prop :=
  ∀ (b lo hi : Byte) (s : State) (f : Form) (r : Byte),
    (f ∈ cmpForms b lo hi ∧ r = s.reg.a ∨ f ∈ cpxForms b lo hi ∧ r = s.reg.x ∨ f ∈ cpyForms b lo hi ∧ r = s.reg.y) →
    ∃ c z n : Bool,
      Runs f.bytes f.instr s
        { (f.operandRead s).2 with
          reg := { s.reg with p := { s.reg.p with c := c, z := z, n := n } }, cycles := f.readCycles s } ∧
      (c = true ↔ (f.operandRead s).1.toNat ≤ r.toNat) ∧ (z = true ↔ r = (f.operandRead s).1) ∧
      (n = true ↔ 128 ≤ (r.toNat + 256 - (f.operandRead s).1.toNat) % 256)

/-- R130, R131, R132: INC and DEC of memory, in every mode: one read, then one write of the byte plus or minus one modulo 256;
only Z and N change of the flags. -/
def Obligations.IncDecMemoryWrapAndKeepCarry : Prop :=
  ∀ (b lo hi : Byte) (s : State) (f : Form) (ea : Word) (u : State) (m : Byte),
    (f ∈ incForms b lo hi ∨ f ∈ decForms b lo hi) →
    ea = (resolve f.operand s).ea → (m, u) = (resolve f.operand s).state.read8 ea →
    ∃ v : Byte,
      Runs f.bytes f.instr s
        { u.write8 ea v with
          reg := { s.reg with p := { s.reg.p with z := v == 0, n := decide (128 ≤ v.toNat) } }, cycles := f.cycles } ∧
      (f ∈ incForms b lo hi → v.toNat = (m.toNat + 1) % 256) ∧ (f ∈ decForms b lo hi → v.toNat = (m.toNat + 255) % 256)

/-- R133 to R136, R177 to R182: the register increments and decrements, which wrap modulo 256 and write Z and N, and the register
transfers, of which TXS alone writes no flag. -/
def Obligations.RegisterIncrementsAndTransfers : Prop :=
  ∀ (s : State) (p : Byte → Flags), (∀ v, p v = { s.reg.p with z := v == 0, n := decide (128 ≤ v.toNat) }) →
    Runs [0xE8] .inx s { s with reg := { s.reg with x := s.reg.x + 1, p := p (s.reg.x + 1) }, cycles := 2 } ∧
    Runs [0xC8] .iny s { s with reg := { s.reg with y := s.reg.y + 1, p := p (s.reg.y + 1) }, cycles := 2 } ∧
    Runs [0xCA] .dex s { s with reg := { s.reg with x := s.reg.x - 1, p := p (s.reg.x - 1) }, cycles := 2 } ∧
    Runs [0x88] .dey s { s with reg := { s.reg with y := s.reg.y - 1, p := p (s.reg.y - 1) }, cycles := 2 } ∧
    Runs [0xAA] .tax s { s with reg := { s.reg with x := s.reg.a, p := p s.reg.a }, cycles := 2 } ∧
    Runs [0xA8] .tay s { s with reg := { s.reg with y := s.reg.a, p := p s.reg.a }, cycles := 2 } ∧
    Runs [0x8A] .txa s { s with reg := { s.reg with a := s.reg.x, p := p s.reg.x }, cycles := 2 } ∧
    Runs [0x98] .tya s { s with reg := { s.reg with a := s.reg.y, p := p s.reg.y }, cycles := 2 } ∧
    Runs [0xBA] .tsx s { s with reg := { s.reg with x := s.reg.s, p := p s.reg.s }, cycles := 2 } ∧
    Runs [0x9A] .txs s { s with reg := { s.reg with s := s.reg.x }, cycles := 2 }

/-! ### Logic and shifts (spec/43_logical.md, spec/45_shift_rotate.md) -/

/-- R140 to R143: AND, ORA and EOR, in every mode; of the flags only Z and N change. -/
def Obligations.LogicalResultsAndFlags : Prop :=
  ∀ (b lo hi : Byte) (s : State) (f : Form) (a : Byte),
    (f ∈ andForms b lo hi ∧ a = s.reg.a &&& (f.operandRead s).1 ∨ f ∈ oraForms b lo hi ∧ a = s.reg.a ||| (f.operandRead s).1 ∨
      f ∈ eorForms b lo hi ∧ a = s.reg.a ^^^ (f.operandRead s).1) →
    Runs f.bytes f.instr s
      { (f.operandRead s).2 with
        reg := { s.reg with a := a, p := { s.reg.p with z := a == 0, n := decide (128 ≤ a.toNat) } },
        cycles := f.readCycles s }

/-- R144: BIT, in both modes: Z from A and the operand, N and V from the operand itself. -/
def Obligations.BitTestsMemoryAgainstA : Prop :=
  ∀ (b lo hi : Byte) (s : State) (f : Form), f ∈ bitForms b lo hi →
    Runs f.bytes f.instr s
      { (f.operandRead s).2 with
        reg :=
          { s.reg with
            p := { s.reg.p with
              z := (s.reg.a &&& (f.operandRead s).1) == 0, n := (f.operandRead s).1.getLsbD 7,
              v := (f.operandRead s).1.getLsbD 6 } },
        cycles := f.readCycles s }

/-- R160 to R164: the shifts and rotates: of memory in every mode, with one read, the new carry and one write; and of A. -/
def Obligations.ShiftsMoveOneBitThroughCarry : Prop :=
  (∀ (b lo hi : Byte) (s : State) (f : Form) (ea : Word) (u : State) (m : Byte),
    (f ∈ aslForms b lo hi ∨ f ∈ lsrForms b lo hi ∨ f ∈ rolForms b lo hi ∨ f ∈ rorForms b lo hi) →
    ea = (resolve f.operand s).ea → (m, u) = (resolve f.operand s).state.read8 ea →
    ∃ (v : Byte) (c : Bool),
      Runs f.bytes f.instr s
        { (u.setP { s.reg.p with c := c }).write8 ea v with
          reg := { s.reg with p := { s.reg.p with c := c, z := v == 0, n := decide (128 ≤ v.toNat) } }, cycles := f.cycles } ∧
      (f ∈ aslForms b lo hi → v.toNat + 256 * c.toNat = 2 * m.toNat) ∧
      (f ∈ lsrForms b lo hi → 2 * v.toNat + c.toNat = m.toNat) ∧
      (f ∈ rolForms b lo hi → v.toNat + 256 * c.toNat = 2 * m.toNat + s.reg.p.c.toNat) ∧
      (f ∈ rorForms b lo hi → 2 * v.toNat + c.toNat = m.toNat + 256 * s.reg.p.c.toNat)) ∧
  ∀ (s : State) (x : Byte × Instr),
    x ∈ [((0x0A : Byte), Instr.aslAcc), (0x4A, .lsrAcc), (0x2A, .rolAcc), (0x6A, .rorAcc)] →
    ∃ (v : Byte) (c : Bool),
      Runs [x.1] x.2 s
        { s with
          reg := { s.reg with a := v, p := { s.reg.p with c := c, z := v == 0, n := decide (128 ≤ v.toNat) } }, cycles := 2 } ∧
      (x.2 = .aslAcc → v.toNat + 256 * c.toNat = 2 * s.reg.a.toNat) ∧
      (x.2 = .lsrAcc → 2 * v.toNat + c.toNat = s.reg.a.toNat) ∧
      (x.2 = .rolAcc → v.toNat + 256 * c.toNat = 2 * s.reg.a.toNat + s.reg.p.c.toNat) ∧
      (x.2 = .rorAcc → 2 * v.toNat + c.toNat = s.reg.a.toNat + 256 * s.reg.p.c.toNat)

/-- R160: "9-bit rotations through carry": ROR undoes ROL, and nine times ROL is the identity on A and C. -/
def Obligations.RotatesGoThroughCarry : Prop :=
  ∀ s : State,
    (∃ t u, exec .rolAcc s = .next t ∧ exec .rorAcc t = .next u ∧ u.reg.a = s.reg.a ∧ u.reg.p.c = s.reg.p.c) ∧
    ∃ t, (fun o : Host.Outcome State Fault Refusal => match o with
        | .next u => exec .rolAcc u
        | other => other)^[9] (.next s) = .next t ∧ t.reg.a = s.reg.a ∧ t.reg.p.c = s.reg.p.c

/-! ### Loads, stores and the stack (spec/46_load_store_transfer.md, spec/47_stack_flags.md) -/

/-- R170 to R173: LDA, LDX and LDY, in every mode. -/
def Obligations.LoadsWriteOneRegister : Prop :=
  ∀ (b lo hi : Byte) (s : State) (f : Form) (m : Byte) (r : Regs), m = (f.operandRead s).1 →
    r = { s.reg with p := { s.reg.p with z := m == 0, n := decide (128 ≤ m.toNat) } } →
    (f ∈ ldaForms b lo hi →
      Runs f.bytes f.instr s { (f.operandRead s).2 with reg := { r with a := m }, cycles := f.readCycles s }) ∧
    (f ∈ ldxForms b lo hi →
      Runs f.bytes f.instr s { (f.operandRead s).2 with reg := { r with x := m }, cycles := f.readCycles s }) ∧
    (f ∈ ldyForms b lo hi →
      Runs f.bytes f.instr s { (f.operandRead s).2 with reg := { r with y := m }, cycles := f.readCycles s })

/-- R174 to R176: STA, STX and STY, in every mode: one write of the register and no flag. -/
def Obligations.StoresWriteTheRegister : Prop :=
  ∀ (b lo hi : Byte) (s : State) (f : Form),
    (f ∈ staForms b lo hi → Runs f.bytes f.instr s
      { (resolve f.operand s).state.write8 (resolve f.operand s).ea s.reg.a with cycles := f.cycles }) ∧
    (f ∈ stxForms b lo hi → Runs f.bytes f.instr s
      { (resolve f.operand s).state.write8 (resolve f.operand s).ea s.reg.x with cycles := f.cycles }) ∧
    (f ∈ styForms b lo hi → Runs f.bytes f.instr s
      { (resolve f.operand s).state.write8 (resolve f.operand s).ea s.reg.y with cycles := f.cycles })

/-- R115, R56: the frame of the read instructions: every byte the CPU reads is as before, and S, PC and the ROM; and where the
operand is no device register, the whole bus and the interrupt lines. -/
def Obligations.ReadInstructionsStoreNothing : Prop :=
  ∀ (b lo hi : Byte) (s : State) (f : Form), f ∈ readForms b lo hi →
    ∃ t, Runs f.bytes f.instr s t ∧ (∀ a, t.peek a = s.peek a) ∧ t.reg.s = s.reg.s ∧ t.reg.pc = s.reg.pc ∧
      t.reg.p.i = s.reg.p.i ∧ t.reg.p.d = s.reg.p.d ∧ t.params = s.params ∧ t.diag = s.diag ∧ t.bus.prg = s.bus.prg ∧
      t.intc.nmiPending = s.intc.nmiPending ∧
      (s.isDevice (resolve f.operand s).ea = false → t.bus = s.bus ∧ t.intc = s.intc)

/-- R115, R131, R160, R174: the frame of the store and of the read-modify-write instructions: of memory only the byte at the
effective address changes, and no register but P's flags C, Z and N, those not at all by a store. -/
def Obligations.StoreInstructionsStoreOneByte : Prop :=
  ∀ (b lo hi : Byte) (s : State) (f : Form), f ∈ storeForms b lo hi ++ modifyForms b lo hi →
    ∃ t, Runs f.bytes f.instr s t ∧ StoresOnly s t (resolve f.operand s).ea ∧ t.diag = s.diag ∧
      (f ∈ storeForms b lo hi → t.reg = s.reg) ∧
      t.reg = { s.reg with p := { s.reg.p with c := t.reg.p.c, z := t.reg.p.z, n := t.reg.p.n } } ∧
      (f ∈ incForms b lo hi ++ decForms b lo hi → t.reg.p.c = s.reg.p.c)

/-- R60, R245: after STA to writable memory, LDA reads the byte back at every address that names the same byte (on the reference
bus RAM repeats every 2 KiB), and any other address reads as before. -/
def Obligations.LoadSeesTheStore : Prop :=
  ∀ (s : State) (w w' : Word), s.wf = true → s.isWritable w = true → s.isDevice w' = false →
    ∃ t u, exec (.staAbs w) s = .next t ∧ exec (.ldaAbs w') t = .next u ∧
      u.reg.a = if s.sameCell w w' then s.reg.a else s.peek w'

/-- R27: the status image and its inverse, by the bits' places. -/
def Obligations.StatusImagePlacesTheFlags : Prop :=
  (∀ (p : Flags) (b : Bool), (p.statusByte b).toNat =
    128 * p.n.toNat + 64 * p.v.toNat + 32 + 16 * b.toNat + 8 * p.d.toNat + 4 * p.i.toNat + 2 * p.z.toNat + p.c.toNat) ∧
  ∀ (p : Flags) (v : Byte), p = Flags.ofStatusByte v →
    v.toNat = 128 * p.n.toNat + 64 * p.v.toNat + (v.toNat / 16 % 4) * 16 + 8 * p.d.toNat + 4 * p.i.toNat + 2 * p.z.toNat +
      p.c.toNat

/-- R190, R191, R192: PHA and PHP. The byte goes to page 1 at S, S wraps, and no other byte and no flag changes. -/
def Obligations.PushesStoreAtS : Prop :=
  ∀ s : State, s.wf = true →
    (∃ t, Runs [0x48] .pha s t ∧ t.reg = { s.reg with s := s.reg.s - 1 } ∧ t.peek (stackAddr s.reg.s) = s.reg.a ∧
      StoresInStack s t [stackAddr s.reg.s] ∧ t.intc = s.intc ∧ t.cycles = 3 ∧ t.diag = s.diag) ∧
    ∃ t, Runs [0x08] .php s t ∧ t.reg = { s.reg with s := s.reg.s - 1 } ∧
      t.peek (stackAddr s.reg.s) = s.reg.p.statusByte true ∧ StoresInStack s t [stackAddr s.reg.s] ∧ t.intc = s.intc ∧
      t.cycles = 3 ∧ t.diag = s.diag

/-- R190, R193, R194: PLA and PLP. S is incremented first; PLA writes Z and N, PLP all six flags. -/
def Obligations.PullsReadAboveS : Prop :=
  ∀ (s : State) (v : Byte), v = s.peek (stackAddr (s.reg.s + 1)) →
    Runs [0x68] .pla s
      { s with
        reg :=
          { s.reg with a := v, s := s.reg.s + 1, p := { s.reg.p with z := v == 0, n := decide (128 ≤ v.toNat) } },
        cycles := 4 } ∧
    Runs [0x28] .plp s { s with reg := { s.reg with s := s.reg.s + 1, p := Flags.ofStatusByte v }, cycles := 4 }

/-- R190 to R194: a pull undoes a push: PLA after PHA, even with A replaced between them, and PLP after PHP. -/
def Obligations.PullUndoesPush : Prop :=
  ∀ s : State, s.wf = true →
    (∀ b : Byte, ∃ t u v, exec .pha s = .next t ∧ exec (.ldaImm b) t = .next u ∧ exec .pla u = .next v ∧
      v.reg.a = s.reg.a ∧ v.reg.s = s.reg.s) ∧
    ∀ i ∈ [Instr.clc, .sec, .cli, .sei, .cld, .sed, .clv], ∃ t u v, exec .php s = .next t ∧ exec i t = .next u ∧
      exec .plp u = .next v ∧ v.reg = s.reg

/-- R195 to R202: the flag instructions, each of which writes its one flag and nothing else, and NOP, which writes nothing. -/
def Obligations.FlagInstructionsWriteOneFlag : Prop :=
  ∀ s : State,
    Runs [0x18] .clc s { s with reg := { s.reg with p := { s.reg.p with c := false } }, cycles := 2 } ∧
    Runs [0x38] .sec s { s with reg := { s.reg with p := { s.reg.p with c := true } }, cycles := 2 } ∧
    Runs [0x58] .cli s { s with reg := { s.reg with p := { s.reg.p with i := false } }, cycles := 2 } ∧
    Runs [0x78] .sei s { s with reg := { s.reg with p := { s.reg.p with i := true } }, cycles := 2 } ∧
    Runs [0xD8] .cld s { s with reg := { s.reg with p := { s.reg.p with d := false } }, cycles := 2 } ∧
    Runs [0xF8] .sed s { s with reg := { s.reg with p := { s.reg.p with d := true } }, cycles := 2 } ∧
    Runs [0xB8] .clv s { s with reg := { s.reg with p := { s.reg.p with v := false } }, cycles := 2 } ∧
    Runs [0xEA] .nop s { s with cycles := 2 }

/-! ### Control flow (spec/48_control_flow.md) -/

/-- R210 to R213: JMP in both modes, JSR and RTS. PC is here already past the instruction, so JSR pushes PC - 1. -/
def Obligations.JumpsAndSubroutinesSetPc : Prop :=
  ∀ (s : State) (lo hi : Byte),
    Runs [0x4C, lo, hi] (.jmpAbs (wordOf hi lo)) s { s with reg := { s.reg with pc := wordOf hi lo }, cycles := 3 } ∧
    Runs [0x6C, lo, hi] (.jmpInd (wordOf hi lo)) s
      { (resolve (.ind (wordOf hi lo)) s).state with
        reg := { s.reg with pc := (resolve (.ind (wordOf hi lo)) s).ea }, cycles := 5 } ∧
    (s.wf = true → ∃ t, Runs [0x20, lo, hi] (.jsr (wordOf hi lo)) s t ∧
      t.reg = { s.reg with s := s.reg.s - 2, pc := wordOf hi lo } ∧
      t.peek (stackAddr s.reg.s) = highByte (s.reg.pc - 1) ∧ t.peek (stackAddr (s.reg.s - 1)) = lowByte (s.reg.pc - 1) ∧
      StoresInStack s t [stackAddr s.reg.s, stackAddr (s.reg.s - 1)] ∧ t.intc = s.intc ∧ t.cycles = 6 ∧ t.diag = s.diag) ∧
    Runs [0x60] .rts s
      { s with
        reg :=
          { s.reg with
            s := s.reg.s + 2,
            pc := wordOf (s.peek (stackAddr (s.reg.s + 2))) (s.peek (stackAddr (s.reg.s + 1))) + 1 },
        cycles := 6 }

/-- R212, R213, R351: RTS after JSR goes on after the JSR with every register as it was. -/
def Obligations.ReturnUndoesACall : Prop :=
  ∀ (s : State) (w : Word), s.wf = true →
    ∃ t u, exec (.jsr w) s = .next t ∧ exec .rts t = .next u ∧ u.reg = s.reg ∧
      StoresInStack s u [stackAddr s.reg.s, stackAddr (s.reg.s - 1)]

/-- R113, R214 to R222: the eight branches: taken, PC moves by the signed displacement modulo 65536 for 3 cycles, or 4 where the
target is on another page than the next instruction; not taken, nothing changes in 2 cycles. -/
def Obligations.BranchesMovePcWhenTaken : Prop :=
  ∀ (b : Byte) (s : State) (f : BranchForm), f ∈ branchForms b s.reg.p →
    (f.taken = false → Runs [f.opcode, b] f.instr s { s with cycles := 2 }) ∧
    (f.taken = true → ∃ target : Word,
      Runs [f.opcode, b] f.instr s
        { s with
          reg := { s.reg with pc := target },
          cycles := if target.toNat / 256 = s.reg.pc.toNat / 256 then 3 else 4 } ∧
      (target.toNat : Int) = ((s.reg.pc.toNat : Int) + b.toInt) % 65536)

/-! ### Invariants of every step and every host call -/

/-- R32, R249, R294: every step keeps the invariant `State.wf`: the memories in their canonical form and within their sizes, the
bank counts powers of two, the IRQ line the OR of its sources on the reference bus. -/
def Obligations.StepKeepsTheInvariant : Prop :=
  ∀ s t : State, s.wf = true → step s = .next t → t.wf = true

/-- The state after reset satisfies the invariant. Its load arguments are the MODEL'S OWN choice (notes/assumptions/3.md). -/
def Obligations.ResetHasTheInvariant : Prop := State.reset.wf = true

/-- R345: every sequence of steps and host calls keeps the invariant, a restored snapshot among them. Which snapshots are refused is
the MODEL'S OWN choice (notes/assumptions/11.md). -/
def Obligations.EventsKeepTheInvariant : Prop :=
  ∀ (es : List Event) (s t : State), s.wf = true → State.runEvents es s = some t → t.wf = true

/-- R35, R65, R242: no step and no host call changes a parameter, a byte of PRG, the mapper's variant, or, where CHR is not
writable, a byte of CHR. -/
def Obligations.RomAndParametersNeverChange : Prop :=
  ∀ (es : List Event) (s t : State), State.runEvents es s = some t →
    t.params = s.params ∧ t.bus.prg = s.bus.prg ∧ t.bus.mapper.kind = s.bus.mapper.kind ∧
      (s.params.chrWritable = false → t.bus.chr = s.bus.chr)

/-- R58, R252, R255, R269: on the reference bus the window 0xE000 to 0xFFFF, with the three vectors, always shows the last PRG
bank: no step and no host call changes a byte read there. -/
def Obligations.VectorWindowIsFixed : Prop :=
  ∀ (es : List Event) (s t : State) (a : Word), s.wf = true → s.params.bus = .reference → 0xE000 ≤ a.toNat →
    State.runEvents es s = some t → t.peek a = s.bus.prg.get ((s.params.prgBanks - 1) * 8192 + a.toNat % 8192)

/-- R312, R350: nothing reads the diagnostics sink, and nothing but a device reads the cycle count. Two machines that differ in the
sink only (equal `cycles`) take the same step, device accesses among them, and add the same events. Two that differ in the cycle
count too do so wherever the step reaches no device register: it reaches none on the flat RAM, and on the reference bus exactly
where the count of device accesses, the model's own `deviceTick`, stays as it was; a device may see the cycles (R246,
notes/assumptions/4.md). -/
def Obligations.OutputsAreNotRead : Prop :=
  ∀ s u s' u' : State, s.sameMachine u → step s = .next s' → step u = .next u' →
    u.cycles = s.cycles ∨ s.params.bus = .flatRam ∨ s'.bus.deviceTick = s.bus.deviceTick →
    s'.sameMachine u' ∧ s'.cycles = u'.cycles ∧ ∃ es, s'.diag = s.diag ++ es ∧ u'.diag = u.diag ++ es

/-! ### The bus and the mapper (spec/50_bus_mapper.md) -/

/-- R245, R246: what each CPU address of the reference bus reads and writes; on the variant `Fixed` a write to 0x8000 to 0xFFFF
does nothing (R252), and on the others ScanlineRegistersTakeWrites and ChrLatchRegistersAndLatchFlips say what it does. The form of
the device clauses is the MODEL'S OWN choice (notes/assumptions/4.md): the oracle is a free value applied to the state without
the diagnostics sink (R312), and `tickDevice` counts the access in the model's own counter. -/
def Obligations.BusDecodesEveryAddress : Prop :=
  ∀ (s : State) (a : Word) (v : Byte), s.params.bus = .reference →
    (a.toNat < 0x2000 → s.read8 a = (s.bus.ram.get (a.toNat % 2048), s) ∧
      s.write8 a v = { s with bus := { s.bus with ram := s.bus.ram.set (a.toNat % 2048) v } }) ∧
    (0x2000 ≤ a.toNat → a.toNat < 0x4000 → ∀ reg : BitVec 5, reg.toNat = a.toNat % 8 →
      s.read8 a = ((Config.deviceRead s.withoutSink .video reg).value,
        (s.applyEffects (Config.deviceRead s.withoutSink .video reg).effects).tickDevice) ∧
      s.write8 a v = (s.applyEffects (Config.deviceWrite s.withoutSink .video reg v)).tickDevice) ∧
    (0x4000 ≤ a.toNat → a.toNat < 0x4020 → ∀ reg : BitVec 5, reg.toNat = a.toNat - 0x4000 →
      s.read8 a = ((Config.deviceRead s.withoutSink .io reg).value,
        (s.applyEffects (Config.deviceRead s.withoutSink .io reg).effects).tickDevice) ∧
      s.write8 a v = (s.applyEffects (Config.deviceWrite s.withoutSink .io reg v)).tickDevice) ∧
    (0x4020 ≤ a.toNat → a.toNat < 0x6000 ∨ (a.toNat < 0x8000 ∧ s.params.wramPresent = false) →
      s.read8 a = (s.params.openBus, s) ∧ s.write8 a v = s) ∧
    (0x6000 ≤ a.toNat → a.toNat < 0x8000 → s.params.wramPresent = true →
      s.read8 a = (s.bus.wram.get (a.toNat - 0x6000), s) ∧
      s.write8 a v = { s with bus := { s.bus with wram := s.bus.wram.set (a.toNat - 0x6000) v } }) ∧
    (0x8000 ≤ a.toNat → s.read8 a = (s.bus.prg.get (prgIndex s.bus.mapper s.params.prgBanks a), s) ∧
      s.write8 a v = s.mapperWrite a v ∧ (s.write8 a v).bus.prg = s.bus.prg ∧ (s.bus.mapper = .fixed → s.write8 a v = s))

/-- R248, R251, R252, R255, R269: which PRG bank each of the four windows shows, reduced by the count of banks, which is the mask
of R248; so no read is out of bounds. -/
def Obligations.PrgWindowsShowTheSelectedBanks : Prop :=
  ∀ (s : State) (a : Word) (w : Nat) (banks : List Int) (p : Int), s.wf = true → s.params.bus = .reference →
    w < 4 → 0x8000 + w * 0x2000 ≤ a.toNat → a.toNat < 0x8000 + (w + 1) * 0x2000 → p = s.params.prgBanks →
    banks = (match s.bus.mapper with
      | .fixed => [p - 4, p - 3, p - 2, p - 1]
      | .scanlineIrq m =>
        if m.bankSelect.getLsbD 6 then [p - 2, m.bankReg[7].toNat, m.bankReg[6].toNat, p - 1]
        else [m.bankReg[6].toNat, m.bankReg[7].toNat, p - 2, p - 1]
      | .chrLatch m => [m.prgBank.toNat, p - 3, p - 2, p - 1]) →
    ∃ (n : Int) (k : Nat), banks[w]? = some n ∧ (k : Int) = n % p ∧ k < s.params.prgBanks ∧
      (0 ≤ n → k = n.toNat &&& (s.params.prgBanks - 1)) ∧
      s.peek a = s.bus.prg.get (k * 8192 + a.toNat % 8192)

/-- R248, R251, R252, R256, R258, R259, R270: which CHR unit each of the eight windows shows, and the reads and writes through
them, at every video address that leads to CHR (14 bits are used). -/
def Obligations.ChrWindowsShowTheSelectedUnits : Prop :=
  ∀ (s : State) (a : Word) (v : Byte) (u : Nat) (units : List Nat), s.wf = true →
    u < 8 → u * 0x400 ≤ a.toNat % 0x4000 → a.toNat % 0x4000 < (u + 1) * 0x400 →
    units = (match s.bus.mapper with
      | .fixed => [0, 1, 2, 3, 4, 5, 6, 7]
      | .scanlineIrq m =>
        let pairs := [m.bankReg[0].toNat / 2 * 2, m.bankReg[0].toNat / 2 * 2 + 1, m.bankReg[1].toNat / 2 * 2,
          m.bankReg[1].toNat / 2 * 2 + 1]
        let singles := [m.bankReg[2].toNat, m.bankReg[3].toNat, m.bankReg[4].toNat, m.bankReg[5].toNat]
        if m.bankSelect.getLsbD 7 then singles ++ pairs else pairs ++ singles
      | .chrLatch m =>
        let low := (if m.latch0 = .fd then m.chrFd0 else m.chrFe0).toNat
        let high := (if m.latch1 = .fd then m.chrFd1 else m.chrFe1).toNat
        [low * 4, low * 4 + 1, low * 4 + 2, low * 4 + 3, high * 4, high * 4 + 1, high * 4 + 2, high * 4 + 3]) →
    ∃ n k : Nat, units[u]? = some n ∧ k = n % s.params.chrUnits ∧ k = n &&& (s.params.chrUnits - 1) ∧
      k < s.params.chrUnits ∧ s.vread a = s.bus.chr.get (k * 1024 + a.toNat % 1024) ∧
      s.vwrite a v = if s.params.chrWritable = true
        then { s with bus := { s.bus with chr := s.bus.chr.set (k * 1024 + a.toNat % 1024) v } } else s

/-- R258, R260, R261, R262: the nametables and the palette: which half of VRAM each logical nametable shows under each mirroring
mode, what a read after a write gives, and that palette addresses are no memory. -/
def Obligations.NametablesAreMirrored : Prop :=
  ∀ (s : State) (a b : Word) (v : Byte) (halves : List Nat) (k l : Nat), s.wf = true →
    halves = (match s.bus.mirroring with
      | .vertical => [0, 1, 0, 1]
      | .horizontal => [0, 0, 1, 1]
      | .singleLow => [0, 0, 0, 0]
      | .singleHigh => [1, 1, 1, 1]) →
    (0x3F00 ≤ a.toNat % 0x4000 → s.vread a = s.params.openBus ∧ s.vwrite a v = s) ∧
    (0x2000 ≤ a.toNat % 0x4000 → a.toNat % 0x4000 < 0x3F00 → halves[a.toNat / 1024 % 4]? = some k →
      s.vread a = s.bus.vram.get (k * 1024 + a.toNat % 1024) ∧
      s.vwrite a v = { s with bus := { s.bus with vram := s.bus.vram.set (k * 1024 + a.toNat % 1024) v } } ∧
      (0x2000 ≤ b.toNat % 0x4000 → b.toNat % 0x4000 < 0x3F00 → halves[b.toNat / 1024 % 4]? = some l →
        (s.vwrite a v).vread b = if k = l ∧ a.toNat % 1024 = b.toNat % 1024 then v else s.vread b))

/-- R254: the eight control registers of `ScanlineIrq`, each at every address of its 8 KiB range with its bit 0. -/
def Obligations.ScanlineRegistersTakeWrites : Prop :=
  ∀ (s : State) (m : ScanlineIrq) (a : Word) (v : Byte) (even : Bool), s.params.bus = .reference →
    s.bus.mapper = .scanlineIrq m → 0x8000 ≤ a.toNat → even = decide (a.toNat % 2 = 0) →
    s.write8 a v =
      (if a.toNat < 0xA000 then
        (if even then { s with bus := { s.bus with mapper := .scanlineIrq { m with bankSelect := v } } }
         else { s with bus := { s.bus with
           mapper := .scanlineIrq { m with bankReg := m.bankReg.set! (m.bankSelect.toNat % 8) v } } })
      else if a.toNat < 0xC000 then
        (if even then { s with bus := { s.bus with mirroring := if v.toNat % 2 = 0 then .vertical else .horizontal } }
         else s)
      else if a.toNat < 0xE000 then
        (if even then { s with bus := { s.bus with mapper := .scanlineIrq { m with irqLatch := v } } }
         else { s with bus := { s.bus with mapper := .scanlineIrq { m with irqCounter := m.irqLatch } } })
      else
        (if even then
          { s with
            bus := { s.bus with mapper := .scanlineIrq { m with irqEnable := false }, irqSrcMapper := false },
            intc := { s.intc with irqLine := s.bus.irqSrcExt } }
         else { s with bus := { s.bus with mapper := .scanlineIrq { m with irqEnable := true } } }))

/-- R268, R271: the control registers of `ChrLatch`, and what a CHR fetch does to its latches. On the variants
`Fixed` and `ScanlineIrq` the notification of a CHR fetch changes nothing (R252, R264). -/
def Obligations.ChrLatchRegistersAndLatchFlips : Prop :=
  (∀ (s : State) (m : ChrLatch) (a : Word) (v : Byte), s.bus.mapper = .chrLatch m →
    (s.params.bus = .reference → 0x8000 ≤ a.toNat →
      s.write8 a v =
        (if a.toNat < 0xA000 then s
         else if a.toNat < 0xB000 then { s with bus := { s.bus with mapper := .chrLatch { m with prgBank := v } } }
         else if a.toNat < 0xC000 then { s with bus := { s.bus with mapper := .chrLatch { m with chrFd0 := v } } }
         else if a.toNat < 0xD000 then { s with bus := { s.bus with mapper := .chrLatch { m with chrFe0 := v } } }
         else if a.toNat < 0xE000 then { s with bus := { s.bus with mapper := .chrLatch { m with chrFd1 := v } } }
         else if a.toNat < 0xF000 then { s with bus := { s.bus with mapper := .chrLatch { m with chrFe1 := v } } }
         else { s with bus := { s.bus with mirroring := if v.toNat % 2 = 0 then .vertical else .horizontal } })) ∧
    s.notifyChrRead a =
      s.setMapper (.chrLatch
        (if a.toNat % 0x4000 = 0x0FD8 then { m with latch0 := .fd }
         else if a.toNat % 0x4000 = 0x0FE8 then { m with latch0 := .fe }
         else if 0x1FD8 ≤ a.toNat % 0x4000 ∧ a.toNat % 0x4000 < 0x1FE0 then { m with latch1 := .fd }
         else if 0x1FE8 ≤ a.toNat % 0x4000 ∧ a.toNat % 0x4000 < 0x1FF0 then { m with latch1 := .fe }
         else m))) ∧
  ∀ (s : State) (a : Word), s.bus.mapper.kind ≠ .chrLatch → s.notifyChrRead a = s

/-- R257, R263: the scanline counter of `ScanlineIrq`: with the counter at `c`, fewer than `c` edges only count down, the edge
number `c` raises the IRQ exactly where it is enabled, and an edge at 0 reloads without an IRQ. On the variants
`Fixed` and `ChrLatch` an edge changes nothing (R252). -/
def Obligations.ScanlineCounterRaisesTheIrq : Prop :=
  (∀ (s : State) (m : ScanlineIrq) (k : Nat), s.bus.mapper = .scanlineIrq m →
    (k < m.irqCounter.toNat → State.notifyScanlineEdge^[k] s =
      { s with bus := { s.bus with mapper := .scanlineIrq { m with irqCounter := m.irqCounter - BitVec.ofNat 8 k } } }) ∧
    (k = m.irqCounter.toNat → 0 < k → m.irqEnable = true → State.notifyScanlineEdge^[k] s =
      { s with
        bus := { s.bus with mapper := .scanlineIrq { m with irqCounter := 0 }, irqSrcMapper := true },
        intc := { s.intc with irqLine := true } }) ∧
    (k = m.irqCounter.toNat → 0 < k → m.irqEnable = false → State.notifyScanlineEdge^[k] s =
      { s with bus := { s.bus with mapper := .scanlineIrq { m with irqCounter := 0 } } }) ∧
    (m.irqCounter = 0 → s.notifyScanlineEdge =
      { s with bus := { s.bus with mapper := .scanlineIrq { m with irqCounter := m.irqLatch } } })) ∧
  ∀ s : State, s.bus.mapper.kind ≠ .scanlineIrq → s.notifyScanlineEdge = s

/-- R265, R292: the external source: the line is the OR of the two sources after the call, so neither's release drops it while
the other still requests. -/
def Obligations.IrqSourcesAreOred : Prop :=
  ∀ (s : State) (level : Bool), s.params.bus = .reference →
    s.hostCall (.setExtIrq level) = some
      { s with
        bus := { s.bus with irqSrcExt := level },
        intc := { s.intc with irqLine := s.bus.irqSrcMapper || level } }

/-- R30, R291, R292: the calls that set the interrupt controller's two flags: `assert_nmi()` on either bus, `assert_irq()` and
`clear_irq()` by the host of a bare core. -/
def Obligations.InterruptCallsSetTheFlags : Prop :=
  ∀ s : State,
    s.hostCall .assertNmi = some { s with intc := { s.intc with nmiPending := true } } ∧
    (s.params.bus = .flatRam →
      s.hostCall .assertIrq = some { s with intc := { s.intc with irqLine := true } } ∧
      s.hostCall .clearIrq = some { s with intc := { s.intc with irqLine := false } })

/-- R41: restoring the snapshot of `s` on the machine it was taken from, whatever state that machine is in by then, gives `s` back
but for what is no part of a snapshot, the outputs and the model's own device counter; a snapshot of another mapper variant is
refused. What a snapshot holds beside R41's list, and which one does not fit, is notes/assumptions/11.md. -/
def Obligations.SnapshotRoundTrip : Prop :=
  (∀ s u : State, s.wf = true → u.params = s.params → u.bus.prg = s.bus.prg → u.bus.mapper.kind = s.bus.mapper.kind →
    (s.params.chrWritable = false → u.bus.chr = s.bus.chr) →
    u.hostCall (.restore s.snapshot) = some
      { s with cycles := u.cycles, diag := u.diag, bus := { s.bus with deviceTick := u.bus.deviceTick } }) ∧
  ∀ (n : Snapshot) (u : State), n.mapper.kind ≠ u.bus.mapper.kind → u.hostCall (.restore n) = none

/-- R252: on the variant `Fixed` no step changes the mapper, the mirroring mode or the mapper's IRQ request, whatever the program
stores and the devices do. -/
def Obligations.FixedMapperNeverChanges : Prop :=
  ∀ s t : State, s.bus.mapper = .fixed → step s = .next t →
    t.bus.mapper = .fixed ∧ t.bus.mirroring = s.bus.mirroring ∧ t.bus.irqSrcMapper = s.bus.irqSrcMapper
end

