-- ==== Sys2Proof/Laws/State.lean ====
section
/-! SUPPORT. What each named update of the state does to each part of it: one lemma per part per update, so that no proof
unfolds a record update. -/

namespace Sys2Proof.Machine

@[simp] theorem State.setA_reg (s : State) (v : Byte) : (s.setA v).reg = { s.reg with a := v } := rfl
@[simp] theorem State.setA_intc (s : State) (v : Byte) : (s.setA v).intc = s.intc := rfl
@[simp] theorem State.setA_bus (s : State) (v : Byte) : (s.setA v).bus = s.bus := rfl
@[simp] theorem State.setA_params (s : State) (v : Byte) : (s.setA v).params = s.params := rfl
@[simp] theorem State.setA_cycles (s : State) (v : Byte) : (s.setA v).cycles = s.cycles := rfl
@[simp] theorem State.setA_diag (s : State) (v : Byte) : (s.setA v).diag = s.diag := rfl

@[simp] theorem State.setX_reg (s : State) (v : Byte) : (s.setX v).reg = { s.reg with x := v } := rfl
@[simp] theorem State.setX_intc (s : State) (v : Byte) : (s.setX v).intc = s.intc := rfl
@[simp] theorem State.setX_bus (s : State) (v : Byte) : (s.setX v).bus = s.bus := rfl
@[simp] theorem State.setX_params (s : State) (v : Byte) : (s.setX v).params = s.params := rfl
@[simp] theorem State.setX_cycles (s : State) (v : Byte) : (s.setX v).cycles = s.cycles := rfl
@[simp] theorem State.setX_diag (s : State) (v : Byte) : (s.setX v).diag = s.diag := rfl

@[simp] theorem State.setY_reg (s : State) (v : Byte) : (s.setY v).reg = { s.reg with y := v } := rfl
@[simp] theorem State.setY_intc (s : State) (v : Byte) : (s.setY v).intc = s.intc := rfl
@[simp] theorem State.setY_bus (s : State) (v : Byte) : (s.setY v).bus = s.bus := rfl
@[simp] theorem State.setY_params (s : State) (v : Byte) : (s.setY v).params = s.params := rfl
@[simp] theorem State.setY_cycles (s : State) (v : Byte) : (s.setY v).cycles = s.cycles := rfl
@[simp] theorem State.setY_diag (s : State) (v : Byte) : (s.setY v).diag = s.diag := rfl

@[simp] theorem State.setS_reg (s : State) (v : Byte) : (s.setS v).reg = { s.reg with s := v } := rfl
@[simp] theorem State.setS_intc (s : State) (v : Byte) : (s.setS v).intc = s.intc := rfl
@[simp] theorem State.setS_bus (s : State) (v : Byte) : (s.setS v).bus = s.bus := rfl
@[simp] theorem State.setS_params (s : State) (v : Byte) : (s.setS v).params = s.params := rfl
@[simp] theorem State.setS_cycles (s : State) (v : Byte) : (s.setS v).cycles = s.cycles := rfl
@[simp] theorem State.setS_diag (s : State) (v : Byte) : (s.setS v).diag = s.diag := rfl

@[simp] theorem State.setPc_reg (s : State) (v : Word) : (s.setPc v).reg = { s.reg with pc := v } := rfl
@[simp] theorem State.setPc_intc (s : State) (v : Word) : (s.setPc v).intc = s.intc := rfl
@[simp] theorem State.setPc_bus (s : State) (v : Word) : (s.setPc v).bus = s.bus := rfl
@[simp] theorem State.setPc_params (s : State) (v : Word) : (s.setPc v).params = s.params := rfl
@[simp] theorem State.setPc_cycles (s : State) (v : Word) : (s.setPc v).cycles = s.cycles := rfl
@[simp] theorem State.setPc_diag (s : State) (v : Word) : (s.setPc v).diag = s.diag := rfl

@[simp] theorem State.setP_reg (s : State) (p : Flags) : (s.setP p).reg = { s.reg with p := p } := rfl
@[simp] theorem State.setP_intc (s : State) (p : Flags) : (s.setP p).intc = s.intc := rfl
@[simp] theorem State.setP_bus (s : State) (p : Flags) : (s.setP p).bus = s.bus := rfl
@[simp] theorem State.setP_params (s : State) (p : Flags) : (s.setP p).params = s.params := rfl
@[simp] theorem State.setP_cycles (s : State) (p : Flags) : (s.setP p).cycles = s.cycles := rfl
@[simp] theorem State.setP_diag (s : State) (p : Flags) : (s.setP p).diag = s.diag := rfl

@[simp] theorem State.setZN_reg (s : State) (v : Byte) : (s.setZN v).reg = { s.reg with p := s.reg.p.setZN v } := rfl
@[simp] theorem State.setZN_intc (s : State) (v : Byte) : (s.setZN v).intc = s.intc := rfl
@[simp] theorem State.setZN_bus (s : State) (v : Byte) : (s.setZN v).bus = s.bus := rfl
@[simp] theorem State.setZN_params (s : State) (v : Byte) : (s.setZN v).params = s.params := rfl
@[simp] theorem State.setZN_cycles (s : State) (v : Byte) : (s.setZN v).cycles = s.cycles := rfl
@[simp] theorem State.setZN_diag (s : State) (v : Byte) : (s.setZN v).diag = s.diag := rfl

@[simp] theorem State.withoutSink_reg (s : State) : s.withoutSink.reg = s.reg := rfl
@[simp] theorem State.withoutSink_intc (s : State) : s.withoutSink.intc = s.intc := rfl
@[simp] theorem State.withoutSink_bus (s : State) : s.withoutSink.bus = s.bus := rfl
@[simp] theorem State.withoutSink_params (s : State) : s.withoutSink.params = s.params := rfl
@[simp] theorem State.withoutSink_cycles (s : State) : s.withoutSink.cycles = s.cycles := rfl
@[simp] theorem State.withoutSink_diag (s : State) : s.withoutSink.diag = [] := rfl

/-- R312: what a device sees of two machines that differ at most in the sink is the same. -/
theorem State.withoutSink_congr {s t : State} (h : s.sameMachine t) (hc : t.cycles = s.cycles) :
    t.withoutSink = s.withoutSink := by
  obtain ⟨hr, hi, hb, hp⟩ := h
  simp only [State.withoutSink, hr, hi, hb, hp, hc]

@[simp] theorem State.took_reg (s : State) (n : Nat) : (s.took n).reg = s.reg := rfl
@[simp] theorem State.took_intc (s : State) (n : Nat) : (s.took n).intc = s.intc := rfl
@[simp] theorem State.took_bus (s : State) (n : Nat) : (s.took n).bus = s.bus := rfl
@[simp] theorem State.took_params (s : State) (n : Nat) : (s.took n).params = s.params := rfl
@[simp] theorem State.took_cycles (s : State) (n : Nat) : (s.took n).cycles = n := rfl
@[simp] theorem State.took_diag (s : State) (n : Nat) : (s.took n).diag = s.diag := rfl

@[simp] theorem State.emit_reg (s : State) (e : DiagEvent) : (s.emit e).reg = s.reg := rfl
@[simp] theorem State.emit_intc (s : State) (e : DiagEvent) : (s.emit e).intc = s.intc := rfl
@[simp] theorem State.emit_bus (s : State) (e : DiagEvent) : (s.emit e).bus = s.bus := rfl
@[simp] theorem State.emit_params (s : State) (e : DiagEvent) : (s.emit e).params = s.params := rfl
@[simp] theorem State.emit_cycles (s : State) (e : DiagEvent) : (s.emit e).cycles = s.cycles := rfl
@[simp] theorem State.emit_diag (s : State) (e : DiagEvent) : (s.emit e).diag = s.diag ++ [e] := rfl

@[simp] theorem State.setMapper_reg (s : State) (m : Mapper) : (s.setMapper m).reg = s.reg := rfl
@[simp] theorem State.setMapper_intc (s : State) (m : Mapper) : (s.setMapper m).intc = s.intc := rfl
@[simp] theorem State.setMapper_bus (s : State) (m : Mapper) : (s.setMapper m).bus = { s.bus with mapper := m } := rfl
@[simp] theorem State.setMapper_params (s : State) (m : Mapper) : (s.setMapper m).params = s.params := rfl
@[simp] theorem State.setMapper_cycles (s : State) (m : Mapper) : (s.setMapper m).cycles = s.cycles := rfl
@[simp] theorem State.setMapper_diag (s : State) (m : Mapper) : (s.setMapper m).diag = s.diag := rfl

@[simp] theorem State.setMirroring_reg (s : State) (m : Config.Mirroring) : (s.setMirroring m).reg = s.reg := rfl
@[simp] theorem State.setMirroring_intc (s : State) (m : Config.Mirroring) : (s.setMirroring m).intc = s.intc := rfl
@[simp] theorem State.setMirroring_bus (s : State) (m : Config.Mirroring) : (s.setMirroring m).bus = { s.bus with mirroring := m } := rfl
@[simp] theorem State.setMirroring_params (s : State) (m : Config.Mirroring) : (s.setMirroring m).params = s.params := rfl
@[simp] theorem State.setMirroring_cycles (s : State) (m : Config.Mirroring) : (s.setMirroring m).cycles = s.cycles := rfl
@[simp] theorem State.setMirroring_diag (s : State) (m : Config.Mirroring) : (s.setMirroring m).diag = s.diag := rfl

@[simp] theorem State.updateIrq_reg (s : State) : (s.updateIrq).reg = s.reg := rfl
@[simp] theorem State.updateIrq_intc (s : State) : (s.updateIrq).intc = { s.intc with irqLine := s.bus.irqSrcMapper || s.bus.irqSrcExt } := rfl
@[simp] theorem State.updateIrq_bus (s : State) : (s.updateIrq).bus = s.bus := rfl
@[simp] theorem State.updateIrq_params (s : State) : (s.updateIrq).params = s.params := rfl
@[simp] theorem State.updateIrq_cycles (s : State) : (s.updateIrq).cycles = s.cycles := rfl
@[simp] theorem State.updateIrq_diag (s : State) : (s.updateIrq).diag = s.diag := rfl

@[simp] theorem State.setExtIrq_reg (s : State) (b : Bool) : (s.setExtIrq b).reg = s.reg := rfl
@[simp] theorem State.setExtIrq_intc (s : State) (b : Bool) : (s.setExtIrq b).intc = { s.intc with irqLine := s.bus.irqSrcMapper || b } := rfl
@[simp] theorem State.setExtIrq_bus (s : State) (b : Bool) : (s.setExtIrq b).bus = { s.bus with irqSrcExt := b } := rfl
@[simp] theorem State.setExtIrq_params (s : State) (b : Bool) : (s.setExtIrq b).params = s.params := rfl
@[simp] theorem State.setExtIrq_cycles (s : State) (b : Bool) : (s.setExtIrq b).cycles = s.cycles := rfl
@[simp] theorem State.setExtIrq_diag (s : State) (b : Bool) : (s.setExtIrq b).diag = s.diag := rfl

@[simp] theorem State.setMapperIrq_reg (s : State) (b : Bool) : (s.setMapperIrq b).reg = s.reg := rfl
@[simp] theorem State.setMapperIrq_intc (s : State) (b : Bool) : (s.setMapperIrq b).intc = { s.intc with irqLine := b || s.bus.irqSrcExt } := rfl
@[simp] theorem State.setMapperIrq_bus (s : State) (b : Bool) : (s.setMapperIrq b).bus = { s.bus with irqSrcMapper := b } := rfl
@[simp] theorem State.setMapperIrq_params (s : State) (b : Bool) : (s.setMapperIrq b).params = s.params := rfl
@[simp] theorem State.setMapperIrq_cycles (s : State) (b : Bool) : (s.setMapperIrq b).cycles = s.cycles := rfl
@[simp] theorem State.setMapperIrq_diag (s : State) (b : Bool) : (s.setMapperIrq b).diag = s.diag := rfl

@[simp] theorem State.tickDevice_reg (s : State) : (s.tickDevice).reg = s.reg := rfl
@[simp] theorem State.tickDevice_intc (s : State) : (s.tickDevice).intc = s.intc := rfl
@[simp] theorem State.tickDevice_bus (s : State) : (s.tickDevice).bus = { s.bus with deviceTick := s.bus.deviceTick + 1 } := rfl
@[simp] theorem State.tickDevice_params (s : State) : (s.tickDevice).params = s.params := rfl
@[simp] theorem State.tickDevice_cycles (s : State) : (s.tickDevice).cycles = s.cycles := rfl
@[simp] theorem State.tickDevice_diag (s : State) : (s.tickDevice).diag = s.diag := rfl

@[simp] theorem State.assertNmi_reg (s : State) : (s.assertNmi).reg = s.reg := rfl
@[simp] theorem State.assertNmi_intc (s : State) : (s.assertNmi).intc = { s.intc with nmiPending := true } := rfl
@[simp] theorem State.assertNmi_bus (s : State) : (s.assertNmi).bus = s.bus := rfl
@[simp] theorem State.assertNmi_params (s : State) : (s.assertNmi).params = s.params := rfl
@[simp] theorem State.assertNmi_cycles (s : State) : (s.assertNmi).cycles = s.cycles := rfl
@[simp] theorem State.assertNmi_diag (s : State) : (s.assertNmi).diag = s.diag := rfl

@[simp] theorem State.setIrqLine_reg (s : State) (b : Bool) : (s.setIrqLine b).reg = s.reg := rfl
@[simp] theorem State.setIrqLine_intc (s : State) (b : Bool) : (s.setIrqLine b).intc = { s.intc with irqLine := b } := rfl
@[simp] theorem State.setIrqLine_bus (s : State) (b : Bool) : (s.setIrqLine b).bus = s.bus := rfl
@[simp] theorem State.setIrqLine_params (s : State) (b : Bool) : (s.setIrqLine b).params = s.params := rfl
@[simp] theorem State.setIrqLine_cycles (s : State) (b : Bool) : (s.setIrqLine b).cycles = s.cycles := rfl
@[simp] theorem State.setIrqLine_diag (s : State) (b : Bool) : (s.setIrqLine b).diag = s.diag := rfl

end Sys2Proof.Machine
end

