-- ==== Sys2Proof/Laws/Memory.lean ====
section
/-! SUPPORT. The laws of one memory: reading after writing, and that every operation keeps the canonical form. -/

namespace Sys2Proof.Machine

open Sys2Proof.Config

@[simp] theorem Memory.get_nil (a : Nat) : Memory.get [] a = unlistedByte := rfl

theorem Memory.get_cons (k : Nat) (v : Byte) (m : Memory) (a : Nat) :
    Memory.get ((k, v) :: m) a = if a = k then v else Memory.get m a := rfl

/-- An address below every cell is unlisted. -/
theorem Memory.get_below (size : Nat) (m : Memory) (lo a : Nat) (h : Memory.wfFrom size lo m = true) (ha : a < lo) :
    m.get a = unlistedByte := by
  induction m generalizing lo with
  | nil => rfl
  | cons c rest ih =>
    obtain ⟨k, v⟩ := c
    simp only [Memory.wfFrom, Bool.and_eq_true, decide_eq_true_eq] at h
    rw [Memory.get_cons, if_neg (by omega)]
    exact ih (k + 1) h.2 (by omega)

/-- A smaller bound below keeps the form. -/
theorem Memory.wfFrom_mono (size : Nat) (m : Memory) (lo lo' : Nat) (h : Memory.wfFrom size lo m = true) (hl : lo' ≤ lo) :
    Memory.wfFrom size lo' m = true := by
  cases m with
  | nil => rfl
  | cons c rest =>
    obtain ⟨k, v⟩ := c
    simp only [Memory.wfFrom, Bool.and_eq_true, decide_eq_true_eq] at h ⊢
    exact ⟨⟨⟨by omega, h.1.1.2⟩, h.1.2⟩, h.2⟩

theorem Memory.wfFrom_consCell (size : Nat) (m : Memory) (lo a : Nat) (v : Byte) (ha : lo ≤ a) (hs : a < size)
    (h : Memory.wfFrom size (a + 1) m = true) : Memory.wfFrom size lo (Memory.cons a v m) = true := by
  unfold Memory.cons
  split
  · exact Memory.wfFrom_mono size m (a + 1) lo h (by omega)
  · rename_i hv
    simp [Memory.wfFrom, ha, hs, hv, h]

theorem Memory.wfFrom_set (size : Nat) (m : Memory) (lo a : Nat) (v : Byte) (h : Memory.wfFrom size lo m = true)
    (ha : lo ≤ a) (hs : a < size) : Memory.wfFrom size lo (m.set a v) = true := by
  induction m generalizing lo with
  | nil => exact Memory.wfFrom_consCell size [] lo a v ha hs rfl
  | cons c rest ih =>
    obtain ⟨k, w⟩ := c
    simp only [Memory.wfFrom, Bool.and_eq_true, decide_eq_true_eq] at h
    simp only [Memory.set]
    split
    · refine Memory.wfFrom_consCell size _ lo a v ha hs ?_
      simp only [Memory.wfFrom, Bool.and_eq_true, decide_eq_true_eq]
      exact ⟨⟨⟨by omega, h.1.1.2⟩, h.1.2⟩, h.2⟩
    · split
      · rename_i hak
        subst hak
        exact Memory.wfFrom_consCell size rest lo a v ha hs h.2
      · simp only [Memory.wfFrom, Bool.and_eq_true, decide_eq_true_eq]
        exact ⟨⟨⟨h.1.1.1, h.1.1.2⟩, h.1.2⟩, ih (k + 1) h.2 (by omega)⟩

/-- A write inside the size keeps the canonical form. -/
theorem Memory.wf_set (size : Nat) (m : Memory) (a : Nat) (v : Byte) (h : m.wf size = true) (hs : a < size) :
    (m.set a v).wf size = true :=
  Memory.wfFrom_set size m 0 a v h (Nat.zero_le a) hs

theorem Memory.get_consCell_self (size : Nat) (m : Memory) (a : Nat) (v : Byte) (h : Memory.wfFrom size (a + 1) m = true) :
    (Memory.cons a v m).get a = v := by
  unfold Memory.cons
  split
  · rename_i hv
    rw [hv]
    exact Memory.get_below size m (a + 1) a h (by omega)
  · simp [Memory.get_cons]

theorem Memory.get_consCell_other (m : Memory) (a b : Nat) (v : Byte) (hab : b ≠ a) :
    (Memory.cons a v m).get b = m.get b := by
  unfold Memory.cons
  split
  · rfl
  · simp [Memory.get_cons, hab]

/-- A write leaves every other address alone (in any list of cells). -/
theorem Memory.get_set_other (m : Memory) (a b : Nat) (v : Byte) (hab : b ≠ a) : (m.set a v).get b = m.get b := by
  induction m with
  | nil => exact Memory.get_consCell_other [] a b v hab
  | cons c rest ih =>
    obtain ⟨k, w⟩ := c
    simp only [Memory.set]
    split
    · exact Memory.get_consCell_other _ a b v hab
    · split
      · rename_i hak
        subst hak
        rw [Memory.get_consCell_other _ a b v hab, Memory.get_cons, if_neg hab]
      · rw [Memory.get_cons, Memory.get_cons, ih]

theorem Memory.get_set_self_from (size : Nat) (m : Memory) (lo a : Nat) (v : Byte) (h : Memory.wfFrom size lo m = true) :
    (m.set a v).get a = v := by
  induction m generalizing lo with
  | nil => exact Memory.get_consCell_self (a + 1) [] a v rfl
  | cons c rest ih =>
    obtain ⟨k, w⟩ := c
    have hr := h
    simp only [Memory.wfFrom, Bool.and_eq_true, decide_eq_true_eq] at h
    simp only [Memory.set]
    split
    · refine Memory.get_consCell_self size _ a v ?_
      simp only [Memory.wfFrom, Bool.and_eq_true, decide_eq_true_eq]
      exact ⟨⟨⟨by omega, h.1.1.2⟩, h.1.2⟩, h.2⟩
    · split
      · rename_i hak
        subst hak
        exact Memory.get_consCell_self size rest a v h.2
      · rename_i hak
        rw [Memory.get_cons, if_neg hak]
        exact ih (k + 1) h.2

/-- A read after a write to the same address gives the value written. -/
theorem Memory.get_set_self (size : Nat) (m : Memory) (a : Nat) (v : Byte) (h : m.wf size = true) : (m.set a v).get a = v :=
  Memory.get_set_self_from size m 0 a v h

theorem Memory.wfFrom_ofBytesFrom (size : Nat) (bytes : List Byte) (k : Nat) (h : k + bytes.length ≤ size) :
    Memory.wfFrom size k (Memory.ofBytesFrom k bytes) = true := by
  induction bytes generalizing k with
  | nil => rfl
  | cons v rest ih =>
    simp only [List.length_cons] at h
    exact Memory.wfFrom_consCell size _ k k v (le_refl k) (by omega) (ih (k + 1) (by omega))

/-- Loading makes a memory in its canonical form. -/
theorem Memory.wf_ofBytes (size : Nat) (bytes : List Byte) : (Memory.ofBytes size bytes).wf size = true :=
  Memory.wfFrom_ofBytesFrom size (bytes.take size) 0 (by simp)

end Sys2Proof.Machine
end

