-- ==== Sys2Proof/Laws/Device.lean ====
section
/-! SUPPORT. What the calls on the video side, the effects of a device access and a mapper write leave alone. -/

namespace Sys2Proof.Machine

open Sys2Proof.Config

/-- The CPU, the parameters and the outputs are as before. -/
structure KeepsCpu (s t : State) : Prop where
  reg : t.reg = s.reg
  params : t.params = s.params
  cycles : t.cycles = s.cycles
  diag : t.diag = s.diag
  nmiPending : t.intc.nmiPending = s.intc.nmiPending

theorem KeepsCpu.refl (s : State) : KeepsCpu s s := ⟨rfl, rfl, rfl, rfl, rfl⟩

theorem KeepsCpu.trans {s t u : State} (h : KeepsCpu s t) (g : KeepsCpu t u) : KeepsCpu s u :=
  ⟨g.reg.trans h.reg, g.params.trans h.params, g.cycles.trans h.cycles, g.diag.trans h.diag,
    g.nmiPending.trans h.nmiPending⟩

/-- The memory that the CPU reads is as before: RAM, work RAM, flat RAM, PRG, and which PRG bank stands in each window. -/
structure KeepsCpuMemory (s t : State) : Prop where
  ram : t.bus.ram = s.bus.ram
  wram : t.bus.wram = s.bus.wram
  flat : t.bus.flat = s.bus.flat
  prg : t.bus.prg = s.bus.prg
  mirroring : t.bus.mirroring = s.bus.mirroring
  windows : ∀ n w, prgWindowBank t.bus.mapper n w = prgWindowBank s.bus.mapper n w
  kind : t.bus.mapper.kind = s.bus.mapper.kind

theorem KeepsCpuMemory.refl (s : State) : KeepsCpuMemory s s := ⟨rfl, rfl, rfl, rfl, rfl, fun _ _ => rfl, rfl⟩

theorem KeepsCpuMemory.trans {s t u : State} (h : KeepsCpuMemory s t) (g : KeepsCpuMemory t u) : KeepsCpuMemory s u :=
  ⟨g.ram.trans h.ram, g.wram.trans h.wram, g.flat.trans h.flat, g.prg.trans h.prg, g.mirroring.trans h.mirroring,
    fun n w => (g.windows n w).trans (h.windows n w), g.kind.trans h.kind⟩

/-- The byte read at every CPU address is as before. -/
theorem KeepsCpuMemory.peek {s t : State} (h : KeepsCpuMemory s t) (hp : t.params = s.params) (a : Word) :
    t.peek a = s.peek a := by
  simp only [State.peek, hp, h.ram, h.wram, h.flat, h.prg, prgIndex, h.windows]

/-- A state that differs only in its registers and outputs has the same memory. -/
theorem KeepsCpuMemory.of_bus {s t : State} (h : t.bus = s.bus) : KeepsCpuMemory s t := by
  constructor <;> simp [h]

/-- Reading is by bus and parameters alone. -/
theorem State.peek_congr {s t : State} (hb : t.bus = s.bus) (hp : t.params = s.params) (a : Word) : t.peek a = s.peek a :=
  (KeepsCpuMemory.of_bus hb).peek hp a

/-! ### The video side -/

theorem State.vwrite_keepsCpu (s : State) (a : Word) (v : Byte) : KeepsCpu s (s.vwrite a v) := by
  unfold State.vwrite
  split
  · split <;> exact ⟨rfl, rfl, rfl, rfl, rfl⟩
  · exact ⟨rfl, rfl, rfl, rfl, rfl⟩
  · exact ⟨rfl, rfl, rfl, rfl, rfl⟩

theorem State.vwrite_keepsMemory (s : State) (a : Word) (v : Byte) : KeepsCpuMemory s (s.vwrite a v) := by
  unfold State.vwrite
  split
  · split <;> exact ⟨rfl, rfl, rfl, rfl, rfl, fun _ _ => rfl, rfl⟩
  · exact ⟨rfl, rfl, rfl, rfl, rfl, fun _ _ => rfl, rfl⟩
  · exact KeepsCpuMemory.refl _

theorem State.notifyScanlineEdge_keepsCpu (s : State) : KeepsCpu s s.notifyScanlineEdge := by
  unfold State.notifyScanlineEdge
  split
  · split
    · exact ⟨rfl, rfl, rfl, rfl, rfl⟩
    · dsimp only
      split <;> exact ⟨rfl, rfl, rfl, rfl, rfl⟩
  · exact ⟨rfl, rfl, rfl, rfl, rfl⟩
  · exact ⟨rfl, rfl, rfl, rfl, rfl⟩

theorem State.notifyScanlineEdge_keepsMemory (s : State) : KeepsCpuMemory s s.notifyScanlineEdge := by
  unfold State.notifyScanlineEdge
  split
  · rename_i m hm
    have hw : ∀ c n w, prgWindowBank (.scanlineIrq { m with irqCounter := c }) n w = prgWindowBank s.bus.mapper n w := by
      intro c n w; rw [hm]; rfl
    have hk : ∀ c, (Mapper.scanlineIrq { m with irqCounter := c }).kind = s.bus.mapper.kind := by intro c; rw [hm]; rfl
    split
    · exact ⟨rfl, rfl, rfl, rfl, rfl, hw _, hk _⟩
    · dsimp only
      split <;> exact ⟨rfl, rfl, rfl, rfl, rfl, hw _, hk _⟩
  · exact KeepsCpuMemory.refl _
  · exact KeepsCpuMemory.refl _

theorem State.notifyChrRead_keepsCpu (s : State) (a : Word) : KeepsCpu s (s.notifyChrRead a) := by
  unfold State.notifyChrRead
  split <;> exact ⟨rfl, rfl, rfl, rfl, rfl⟩

/-- R271: a latch update leaves every field but the latches. -/
theorem ChrLatch.notify_prgBank (m : ChrLatch) (a : Nat) : (m.notify a).prgBank = m.prgBank := by
  unfold ChrLatch.notify
  repeat' split
  all_goals rfl

theorem State.notifyChrRead_keepsMemory (s : State) (a : Word) : KeepsCpuMemory s (s.notifyChrRead a) := by
  unfold State.notifyChrRead
  split
  · rename_i m hm
    refine ⟨rfl, rfl, rfl, rfl, rfl, ?_, ?_⟩
    · intro n w
      rw [hm]
      simp only [State.setMapper_bus, prgWindowBank, ChrLatch.notify_prgBank]
    · rw [hm]; rfl
  · exact KeepsCpuMemory.refl _
  · exact KeepsCpuMemory.refl _

/-! ### Device accesses -/

theorem State.applyEffect_keepsCpu (e : DeviceEffect) (s : State) : KeepsCpu s (s.applyEffect e) := by
  cases e with
  | setExtIrq b => exact ⟨rfl, rfl, rfl, rfl, rfl⟩
  | notifyChrRead a => exact s.notifyChrRead_keepsCpu a
  | notifyScanlineEdge => exact s.notifyScanlineEdge_keepsCpu
  | chrWrite a v => exact s.vwrite_keepsCpu a v
  | ntWrite a v => exact s.vwrite_keepsCpu a v

theorem State.applyEffect_keepsMemory (e : DeviceEffect) (s : State) : KeepsCpuMemory s (s.applyEffect e) := by
  cases e with
  | setExtIrq b => exact ⟨rfl, rfl, rfl, rfl, rfl, fun _ _ => rfl, rfl⟩
  | notifyChrRead a => exact s.notifyChrRead_keepsMemory a
  | notifyScanlineEdge => exact s.notifyScanlineEdge_keepsMemory
  | chrWrite a v => exact s.vwrite_keepsMemory a v
  | ntWrite a v => exact s.vwrite_keepsMemory a v

theorem State.applyEffects_keepsCpu (es : List DeviceEffect) (s : State) : KeepsCpu s (s.applyEffects es) := by
  induction es generalizing s with
  | nil => exact KeepsCpu.refl s
  | cons e rest ih => exact (s.applyEffect_keepsCpu e).trans (ih (s.applyEffect e))

theorem State.applyEffects_keepsMemory (es : List DeviceEffect) (s : State) : KeepsCpuMemory s (s.applyEffects es) := by
  induction es generalizing s with
  | nil => exact KeepsCpuMemory.refl s
  | cons e rest ih => exact (s.applyEffect_keepsMemory e).trans (ih (s.applyEffect e))

/-! ### How often a device is reached -/

theorem State.vwrite_deviceTick (s : State) (a : Word) (v : Byte) : (s.vwrite a v).bus.deviceTick = s.bus.deviceTick := by
  unfold State.vwrite
  split
  · split <;> rfl
  · rfl
  · rfl

theorem State.applyEffect_deviceTick (e : DeviceEffect) (s : State) :
    (s.applyEffect e).bus.deviceTick = s.bus.deviceTick := by
  cases e with
  | setExtIrq b => rfl
  | notifyChrRead a => simp only [State.applyEffect, State.notifyChrRead]; split <;> rfl
  | notifyScanlineEdge => simp only [State.applyEffect, State.notifyScanlineEdge]; repeat' split
                          all_goals rfl
  | chrWrite a v => exact s.vwrite_deviceTick a v
  | ntWrite a v => exact s.vwrite_deviceTick a v

theorem State.applyEffects_deviceTick (es : List DeviceEffect) (s : State) :
    (s.applyEffects es).bus.deviceTick = s.bus.deviceTick := by
  induction es generalizing s with
  | nil => rfl
  | cons e rest ih => exact (ih (s.applyEffect e)).trans (s.applyEffect_deviceTick e)

/-- R246: one access of a device register counts once. -/
theorem State.deviceRead_deviceTick (s : State) (port : DevicePort) (reg : BitVec 5) :
    (s.deviceRead port reg).2.bus.deviceTick = s.bus.deviceTick + 1 :=
  congrArg (· + 1) (s.applyEffects_deviceTick _)

theorem State.deviceWrite_deviceTick (s : State) (port : DevicePort) (reg : BitVec 5) (v : Byte) :
    (s.deviceWrite port reg v).bus.deviceTick = s.bus.deviceTick + 1 :=
  congrArg (· + 1) (s.applyEffects_deviceTick _)

/-! ### What a device sees -/

/-- R312: the sink has no influence on what a device answers to a read. -/
theorem State.deviceRead_value_congr {s t : State} (h : s.sameMachine t) (hc : t.cycles = s.cycles) (port : DevicePort)
    (reg : BitVec 5) : (t.deviceRead port reg).1 = (s.deviceRead port reg).1 := by
  simp only [State.deviceRead, State.withoutSink_congr h hc]

/-! ### What a device access leaves alone -/

theorem State.deviceRead_keepsCpu (s : State) (port : DevicePort) (reg : BitVec 5) : KeepsCpu s (s.deviceRead port reg).2 :=
  (s.applyEffects_keepsCpu _).trans ⟨rfl, rfl, rfl, rfl, rfl⟩

theorem State.deviceRead_keepsMemory (s : State) (port : DevicePort) (reg : BitVec 5) :
    KeepsCpuMemory s (s.deviceRead port reg).2 :=
  (s.applyEffects_keepsMemory _).trans ⟨rfl, rfl, rfl, rfl, rfl, fun _ _ => rfl, rfl⟩

theorem State.deviceWrite_keepsCpu (s : State) (port : DevicePort) (reg : BitVec 5) (v : Byte) :
    KeepsCpu s (s.deviceWrite port reg v) :=
  (s.applyEffects_keepsCpu _).trans ⟨rfl, rfl, rfl, rfl, rfl⟩

theorem State.deviceWrite_keepsMemory (s : State) (port : DevicePort) (reg : BitVec 5) (v : Byte) :
    KeepsCpuMemory s (s.deviceWrite port reg v) :=
  (s.applyEffects_keepsMemory _).trans ⟨rfl, rfl, rfl, rfl, rfl, fun _ _ => rfl, rfl⟩

/-! ### Mapper writes -/

/-- What a mapper write leaves: everything but the mapper's own fields, the mirroring mode and the mapper's IRQ request. -/
structure KeepsMemories (s t : State) : Prop where
  ram : t.bus.ram = s.bus.ram
  wram : t.bus.wram = s.bus.wram
  flat : t.bus.flat = s.bus.flat
  prg : t.bus.prg = s.bus.prg
  chr : t.bus.chr = s.bus.chr
  vram : t.bus.vram = s.bus.vram
  irqSrcExt : t.bus.irqSrcExt = s.bus.irqSrcExt
  deviceTick : t.bus.deviceTick = s.bus.deviceTick
  kind : t.bus.mapper.kind = s.bus.mapper.kind

theorem KeepsMemories.refl (s : State) : KeepsMemories s s := ⟨rfl, rfl, rfl, rfl, rfl, rfl, rfl, rfl, rfl⟩

theorem State.scanlineWrite_keeps (s : State) (m : ScanlineIrq) (hm : s.bus.mapper = .scanlineIrq m) (a : Word) (v : Byte) :
    KeepsCpu s (s.scanlineWrite m a v) ∧ KeepsMemories s (s.scanlineWrite m a v) := by
  have hk : s.bus.mapper.kind = .scanlineIrq := by rw [hm]; rfl
  unfold State.scanlineWrite
  dsimp only
  repeat' split
  all_goals exact ⟨⟨rfl, rfl, rfl, rfl, rfl⟩, ⟨rfl, rfl, rfl, rfl, rfl, rfl, rfl, rfl, by first | rfl | exact hk.symm⟩⟩

theorem State.chrLatchWrite_keeps (s : State) (m : ChrLatch) (hm : s.bus.mapper = .chrLatch m) (a : Word) (v : Byte) :
    KeepsCpu s (s.chrLatchWrite m a v) ∧ KeepsMemories s (s.chrLatchWrite m a v) := by
  have hk : s.bus.mapper.kind = .chrLatch := by rw [hm]; rfl
  unfold State.chrLatchWrite
  dsimp only
  repeat' split
  all_goals exact ⟨⟨rfl, rfl, rfl, rfl, rfl⟩, ⟨rfl, rfl, rfl, rfl, rfl, rfl, rfl, rfl, by first | rfl | exact hk.symm⟩⟩

theorem State.mapperWrite_keeps (s : State) (a : Word) (v : Byte) :
    KeepsCpu s (s.mapperWrite a v) ∧ KeepsMemories s (s.mapperWrite a v) := by
  unfold State.mapperWrite
  split
  · exact ⟨KeepsCpu.refl s, KeepsMemories.refl s⟩
  · rename_i m hm; exact s.scanlineWrite_keeps m hm a v
  · rename_i m hm; exact s.chrLatchWrite_keeps m hm a v

end Sys2Proof.Machine
end

