-- ==== Sys2Proof/Laws/Bus.lean ====
section
/-! SUPPORT. What the memory trait, the stack and the interrupt entry do: for each operation what it leaves alone, and for each
that writes what reading gives afterwards. -/

namespace Sys2Proof.Machine

open Sys2Proof.Config

/-! ### Reads -/

theorem State.read8_keepsCpu (s : State) (a : Word) : KeepsCpu s (s.read8 a).2 := by
  unfold State.read8
  split
  · exact s.deviceRead_keepsCpu _ _
  · exact KeepsCpu.refl s

theorem State.read8_keepsMemory (s : State) (a : Word) : KeepsCpuMemory s (s.read8 a).2 := by
  unfold State.read8
  split
  · exact s.deviceRead_keepsMemory _ _
  · exact KeepsCpuMemory.refl s

@[simp] theorem State.read8_reg (s : State) (a : Word) : (s.read8 a).2.reg = s.reg := (s.read8_keepsCpu a).reg
@[simp] theorem State.read8_params (s : State) (a : Word) : (s.read8 a).2.params = s.params := (s.read8_keepsCpu a).params
@[simp] theorem State.read8_cycles (s : State) (a : Word) : (s.read8 a).2.cycles = s.cycles := (s.read8_keepsCpu a).cycles
@[simp] theorem State.read8_diag (s : State) (a : Word) : (s.read8 a).2.diag = s.diag := (s.read8_keepsCpu a).diag
@[simp] theorem State.read8_peek (s : State) (a b : Word) : (s.read8 a).2.peek b = s.peek b :=
  (s.read8_keepsMemory a).peek (s.read8_params a) b

/-- R245: outside the device registers a read gives the byte there and has no side effect. -/
theorem State.read8_memory (s : State) (a : Word) (h : s.isDevice a = false) : s.read8 a = (s.peek a, s) := by
  unfold State.isDevice at h
  unfold State.read8
  cases hr : region s.params a <;> first | (rw [hr] at h; exact nomatch h) | rfl

/-- Whether an address is a device register depends on the parameters alone. -/
theorem State.isDevice_congr {s t : State} (h : t.params = s.params) (a : Word) : t.isDevice a = s.isDevice a := by
  simp only [State.isDevice, h]

theorem State.isWritable_congr {s t : State} (h : t.params = s.params) (a : Word) : t.isWritable a = s.isWritable a := by
  simp only [State.isWritable, h]

theorem State.sameCell_congr {s t : State} (h : t.params = s.params) (a b : Word) : t.sameCell a b = s.sameCell a b := by
  simp only [State.sameCell, State.isWritable, h]

theorem State.read16_keepsCpu (s : State) (a : Word) : KeepsCpu s (s.read16 a).2 :=
  (s.read8_keepsCpu a).trans (State.read8_keepsCpu _ _)

theorem State.read16_keepsMemory (s : State) (a : Word) : KeepsCpuMemory s (s.read16 a).2 :=
  (s.read8_keepsMemory a).trans (State.read8_keepsMemory _ _)

/-- R53: where neither byte is a device register. -/
theorem State.read16_memory (s : State) (a : Word) (h : s.isDevice a = false) (h' : s.isDevice (a + 1) = false) :
    s.read16 a = (wordOf (s.peek (a + 1)) (s.peek a), s) := by
  simp only [State.read16, s.read8_memory a h, s.read8_memory (a + 1) h']

/-! ### Writes -/

theorem State.write8_keepsCpu (s : State) (a : Word) (v : Byte) : KeepsCpu s (s.write8 a v) := by
  unfold State.write8
  split
  · exact ⟨rfl, rfl, rfl, rfl, rfl⟩
  · exact ⟨rfl, rfl, rfl, rfl, rfl⟩
  · exact ⟨rfl, rfl, rfl, rfl, rfl⟩
  · exact s.deviceWrite_keepsCpu _ _ v
  · exact (s.mapperWrite_keeps a v).1
  · exact KeepsCpu.refl s

@[simp] theorem State.write8_reg (s : State) (a : Word) (v : Byte) : (s.write8 a v).reg = s.reg := (s.write8_keepsCpu a v).reg
@[simp] theorem State.write8_params (s : State) (a : Word) (v : Byte) : (s.write8 a v).params = s.params :=
  (s.write8_keepsCpu a v).params
@[simp] theorem State.write8_cycles (s : State) (a : Word) (v : Byte) : (s.write8 a v).cycles = s.cycles :=
  (s.write8_keepsCpu a v).cycles
@[simp] theorem State.write8_diag (s : State) (a : Word) (v : Byte) : (s.write8 a v).diag = s.diag :=
  (s.write8_keepsCpu a v).diag

/-- R245: no write changes a byte of PRG or the mapper's variant. -/
theorem State.write8_rom (s : State) (a : Word) (v : Byte) :
    (s.write8 a v).bus.prg = s.bus.prg ∧ (s.write8 a v).bus.mapper.kind = s.bus.mapper.kind := by
  unfold State.write8
  split
  · exact ⟨rfl, rfl⟩
  · exact ⟨rfl, rfl⟩
  · exact ⟨rfl, rfl⟩
  · exact ⟨(s.deviceWrite_keepsMemory _ _ v).prg, (s.deviceWrite_keepsMemory _ _ v).kind⟩
  · exact ⟨(s.mapperWrite_keeps a v).2.prg, (s.mapperWrite_keeps a v).2.kind⟩
  · exact ⟨rfl, rfl⟩

/-- The offset of a RAM address is inside RAM, and so on for each class. -/
theorem region_bounds (p : Params) (a : Word) :
    (∀ i, region p a = .ram i → i < ramSize) ∧ (∀ i, region p a = .wram i → i < wramSize) ∧
      (∀ i, region p a = .flat i → i < flatSize) := by
  have ha : a.toNat < 65536 := a.isLt
  unfold region
  split
  · refine ⟨by simp, by simp, ?_⟩
    intro i h
    simp only [Region.flat.injEq] at h
    rw [← h]
    exact ha
  · refine ⟨?_, ?_, ?_⟩ <;> intro i h <;> (repeat' split at h) <;>
      simp only [Region.ram.injEq, Region.wram.injEq, reduceCtorEq] at h
    · rw [← h]; exact Nat.mod_lt _ (by decide)
    · rw [← h]; simp only [wramSize]; omega

/-- R245: which memory each class of address reads. -/
theorem State.peek_class (s : State) (a : Word) :
    (∀ i, region s.params a = .flat i → s.peek a = s.bus.flat.get i) ∧
      (∀ i, region s.params a = .ram i → s.peek a = s.bus.ram.get i) ∧
      (∀ i, region s.params a = .wram i → s.peek a = s.bus.wram.get i) := by
  refine ⟨?_, ?_, ?_⟩ <;> intro i h <;> simp [State.peek, h]

/-- R245: which memory each class of address writes. -/
theorem State.write8_class (s : State) (a : Word) (v : Byte) :
    (∀ i, region s.params a = .flat i →
        s.write8 a v = { s with bus := { s.bus with flat := s.bus.flat.set i v } }) ∧
      (∀ i, region s.params a = .ram i →
        s.write8 a v = { s with bus := { s.bus with ram := s.bus.ram.set i v } }) ∧
      (∀ i, region s.params a = .wram i →
        s.write8 a v = { s with bus := { s.bus with wram := s.bus.wram.set i v } }) := by
  refine ⟨?_, ?_, ?_⟩ <;> intro i h <;> simp [State.write8, h]

/-- An address of writable memory is in one of three classes. -/
theorem State.isWritable_cases (s : State) (a : Word) (h : s.isWritable a = true) :
    (∃ i, region s.params a = .flat i) ∨ (∃ i, region s.params a = .ram i) ∨ ∃ i, region s.params a = .wram i := by
  unfold State.isWritable at h
  split at h
  · exact .inl ⟨_, by assumption⟩
  · exact .inr (.inl ⟨_, by assumption⟩)
  · exact .inr (.inr ⟨_, by assumption⟩)
  · cases h

/-- R60: reading the address just stored to, where it leads to writable memory, gives the value stored. -/
theorem State.peek_write8_self (s : State) (a : Word) (v : Byte) (hs : s.wf = true) (h : s.isWritable a = true) :
    (s.write8 a v).peek a = v := by
  simp only [State.wf, Bool.and_eq_true] at hs
  rcases s.isWritable_cases a h with ⟨i, hi⟩ | ⟨i, hi⟩ | ⟨i, hi⟩
  · rw [(State.peek_class (s.write8 a v) a).1 i (by rw [State.write8_params]; exact hi), (s.write8_class a v).1 i hi]
    exact Memory.get_set_self flatSize _ _ _ hs.1.1.1.1.1.2
  · rw [(State.peek_class (s.write8 a v) a).2.1 i (by rw [State.write8_params]; exact hi), (s.write8_class a v).2.1 i hi]
    exact Memory.get_set_self ramSize _ _ _ hs.1.1.1.1.1.1.1.1
  · rw [(State.peek_class (s.write8 a v) a).2.2 i (by rw [State.write8_params]; exact hi), (s.write8_class a v).2.2 i hi]
    exact Memory.get_set_self wramSize _ _ _ hs.1.1.1.1.1.1.1.2

/-- Replacing one memory leaves the read of every address outside it, and of every other offset in it. -/
theorem State.peek_setMemory (s : State) (b : Word) (r : Region) (hr : region s.params b ≠ r) (v : Byte) :
    (∀ i, r = .flat i → State.peek { s with bus := { s.bus with flat := s.bus.flat.set i v } } b = s.peek b) ∧
      (∀ i, r = .ram i → State.peek { s with bus := { s.bus with ram := s.bus.ram.set i v } } b = s.peek b) ∧
      (∀ i, r = .wram i → State.peek { s with bus := { s.bus with wram := s.bus.wram.set i v } } b = s.peek b) := by
  refine ⟨?_, ?_, ?_⟩ <;> intro i h <;> subst h <;> unfold State.peek <;> dsimp only <;> split <;> rename_i hb <;>
    first
      | rfl
      | (refine Memory.get_set_other _ _ _ _ ?_; rintro rfl; exact hr hb)

/-- A store to writable memory changes no other byte that the CPU reads. -/
theorem State.peek_write8_other (s : State) (a b : Word) (v : Byte) (h : s.isWritable a = true)
    (hab : s.sameCell a b = false) : (s.write8 a v).peek b = s.peek b := by
  simp only [State.sameCell, h, Bool.true_and, beq_eq_false_iff_ne, ne_eq] at hab
  have hba : region s.params b ≠ region s.params a := fun e => hab e.symm
  have key := s.peek_setMemory b _ hba v
  rcases s.isWritable_cases a h with ⟨i, hi⟩ | ⟨i, hi⟩ | ⟨i, hi⟩
  · rw [(s.write8_class a v).1 i hi]; exact key.1 i hi
  · rw [(s.write8_class a v).2.1 i hi]; exact key.2.1 i hi
  · rw [(s.write8_class a v).2.2 i hi]; exact key.2.2 i hi

/-- A store that does not reach writable memory changes none of it. -/
theorem State.write8_elsewhere (s : State) (a : Word) (v : Byte) (h : s.isWritable a = false) :
    (s.write8 a v).bus.ram = s.bus.ram ∧ (s.write8 a v).bus.wram = s.bus.wram ∧
      (s.write8 a v).bus.flat = s.bus.flat := by
  unfold State.isWritable at h
  unfold State.write8
  split
  · rename_i i hi; simp [hi] at h
  · rename_i i hi; simp [hi] at h
  · rename_i i hi; simp [hi] at h
  · exact ⟨(s.deviceWrite_keepsMemory _ _ v).ram, (s.deviceWrite_keepsMemory _ _ v).wram,
      (s.deviceWrite_keepsMemory _ _ v).flat⟩
  · exact ⟨(s.mapperWrite_keeps a v).2.ram, (s.mapperWrite_keeps a v).2.wram, (s.mapperWrite_keeps a v).2.flat⟩
  · exact ⟨rfl, rfl, rfl⟩

/-! ### How often a device is reached -/

/-- R246: a read counts one device access where the address is a device register, and none elsewhere. -/
theorem State.read8_deviceTick (s : State) (a : Word) :
    (s.read8 a).2.bus.deviceTick = s.bus.deviceTick + (s.isDevice a).toNat := by
  unfold State.isDevice State.read8
  cases region s.params a <;> first | rfl | exact s.deviceRead_deviceTick _ _

/-- R246: a write counts one device access where the address is a device register, and none elsewhere. -/
theorem State.write8_deviceTick (s : State) (a : Word) (v : Byte) :
    (s.write8 a v).bus.deviceTick = s.bus.deviceTick + (s.isDevice a).toNat := by
  unfold State.isDevice State.write8
  cases region s.params a <;> first | rfl | exact s.deviceWrite_deviceTick _ _ v | exact (s.mapperWrite_keeps a v).2.deviceTick

/-- R245: on the flat RAM no address is a device register. -/
theorem State.isDevice_flat (s : State) (a : Word) (h : s.params.bus = .flatRam) : s.isDevice a = false := by
  unfold State.isDevice region
  rw [h]

/-! ### The stack -/

/-- R24: a stack address lies in page 1. -/
theorem stackAddr_toNat (sp : Byte) : (stackAddr sp).toNat = 0x100 + sp.toNat := by
  have := sp.isLt
  have h1 : stackPage.toNat = 1 := rfl
  simp only [stackAddr, wordOf, BitVec.toNat_append, h1]
  rw [← Nat.shiftLeft_add_eq_or_of_lt this]
  rfl

/-- R190, R245: the class of a stack address. -/
theorem region_stackAddr (p : Params) (sp : Byte) :
    region p (stackAddr sp) = match p.bus with
      | .flatRam => .flat (0x100 + sp.toNat)
      | .reference => .ram (0x100 + sp.toNat) := by
  have h := stackAddr_toNat sp
  have := sp.isLt
  unfold region
  rw [h]
  cases p.bus with
  | flatRam => rfl
  | reference =>
    dsimp only
    rw [if_pos (by omega), Nat.mod_eq_of_lt (by simp only [ramSize]; omega)]

/-- R190: a stack address leads to writable memory on either bus. -/
theorem State.stackAddr_isWritable (s : State) (sp : Byte) : s.isWritable (stackAddr sp) = true := by
  unfold State.isWritable
  rw [region_stackAddr]
  cases s.params.bus <;> rfl

theorem State.stackAddr_isDevice (s : State) (sp : Byte) : s.isDevice (stackAddr sp) = false := by
  unfold State.isDevice
  rw [region_stackAddr]
  cases s.params.bus <;> rfl

/-- R190: Pull reads the byte above S and has no side effect but on S. -/
theorem State.pull_eq (s : State) : s.pull = (s.peek (stackAddr (s.reg.s + 1)), s.setS (s.reg.s + 1)) := by
  unfold State.pull
  dsimp only
  rw [State.read8_memory _ _ (State.stackAddr_isDevice _ _)]
  rfl

@[simp] theorem State.push_reg (s : State) (v : Byte) : (s.push v).reg = { s.reg with s := s.reg.s - 1 } := by
  simp [State.push]

@[simp] theorem State.push_params (s : State) (v : Byte) : (s.push v).params = s.params := by simp [State.push]

@[simp] theorem State.push_cycles (s : State) (v : Byte) : (s.push v).cycles = s.cycles := by simp [State.push]

@[simp] theorem State.push_diag (s : State) (v : Byte) : (s.push v).diag = s.diag := by simp [State.push]

/-- R190: Push reaches the IRQ line and the device counter in no way: the stack is plain memory. -/
theorem State.push_intc (s : State) (v : Byte) : (s.push v).intc = s.intc := by
  simp only [State.push, State.setS_intc, State.write8, region_stackAddr]
  cases s.params.bus <;> rfl

/-- R190: the byte just pushed. -/
theorem State.peek_push_self (s : State) (v : Byte) (hs : s.wf = true) : (s.push v).peek (stackAddr s.reg.s) = v := by
  have h := s.peek_write8_self (stackAddr s.reg.s) v hs (s.stackAddr_isWritable _)
  exact (State.peek_congr rfl rfl _).trans h

/-- R190: every other byte. -/
theorem State.peek_push_other (s : State) (v : Byte) (a : Word) (h : s.sameCell (stackAddr s.reg.s) a = false) :
    (s.push v).peek a = s.peek a := by
  have h' := s.peek_write8_other (stackAddr s.reg.s) a v (s.stackAddr_isWritable _) h
  exact (State.peek_congr rfl rfl _).trans h'

@[simp] theorem State.pushWord_reg (s : State) (w : Word) : (s.pushWord w).reg = { s.reg with s := s.reg.s - 1 - 1 } := by
  simp [State.pushWord]

@[simp] theorem State.pushWord_params (s : State) (w : Word) : (s.pushWord w).params = s.params := by simp [State.pushWord]

theorem State.pushWord_intc (s : State) (w : Word) : (s.pushWord w).intc = s.intc := by
  simp [State.pushWord, State.push_intc]

/-- R296: what an interrupt entry does to the registers: S falls by 3, I is set, PC is what the vector holds after the pushes. -/
theorem State.interrupt_reg (s : State) (vector : Word) (b : Bool) (r : Word) :
    (s.interrupt vector b r).reg =
      { s.reg with
        s := s.reg.s - 1 - 1 - 1, p := { s.reg.p with i := true },
        pc := ((((s.pushWord r).push (s.reg.p.statusByte b)).setP { s.reg.p with i := true }).read16 vector).1 } := by
  simp [State.interrupt, (State.read16_keepsCpu _ _).reg]

/-- R296: the parameters and the outputs are as before. -/
theorem State.interrupt_outputs (s : State) (vector : Word) (b : Bool) (r : Word) :
    (s.interrupt vector b r).params = s.params ∧ (s.interrupt vector b r).cycles = s.cycles ∧
      (s.interrupt vector b r).diag = s.diag := by
  refine ⟨?_, ?_, ?_⟩ <;>
    simp [State.interrupt, (State.read16_keepsCpu _ _).params, (State.read16_keepsCpu _ _).cycles,
      (State.read16_keepsCpu _ _).diag, State.pushWord]

end Sys2Proof.Machine
end

