-- ==== Sys2Proof/Laws/Wf.lean ====
section
/-! SUPPORT. Every named operation keeps the invariant `State.wf`: the memories stay in their canonical form within their
sizes, and on the reference bus the IRQ line stays the OR of its sources. -/

namespace Sys2Proof.Machine

open Sys2Proof.Config

/-- The invariant speaks of the bus, the interrupt controller's line and the parameters only. -/
theorem State.wf_congr {s t : State} (hb : t.bus = s.bus) (hi : t.intc.irqLine = s.intc.irqLine) (hp : t.params = s.params) :
    t.wf = s.wf := by
  simp only [State.wf, hb, hi, hp]

/-- The parts of the invariant by name. -/
structure Wf (s : State) : Prop where
  ram : s.bus.ram.wf ramSize = true
  wram : s.bus.wram.wf wramSize = true
  vram : s.bus.vram.wf vramSize = true
  flat : s.bus.flat.wf flatSize = true
  prg : s.bus.prg.wf (s.params.prgBanks * prgBankSize) = true
  chr : s.bus.chr.wf (s.params.chrUnits * chrUnitSize) = true
  prgBanks : isPowerOfTwo s.params.prgBanks = true
  chrUnits : isPowerOfTwo s.params.chrUnits = true
  irq : irqAgrees s.params.bus s.intc.irqLine s.bus.irqSrcMapper s.bus.irqSrcExt = true

theorem State.wf_iff (s : State) : s.wf = true ↔ Wf s := by
  simp only [State.wf, Bool.and_eq_true]
  constructor
  · rintro ⟨⟨⟨⟨⟨⟨⟨⟨h1, h2⟩, h3⟩, h4⟩, h5⟩, h6⟩, h7⟩, h8⟩, h9⟩
    exact ⟨h1, h2, h3, h4, h5, h6, h7, h8, h9⟩
  · rintro ⟨h1, h2, h3, h4, h5, h6, h7, h8, h9⟩
    exact ⟨⟨⟨⟨⟨⟨⟨⟨h1, h2⟩, h3⟩, h4⟩, h5⟩, h6⟩, h7⟩, h8⟩, h9⟩

theorem isPowerOfTwo_pos (n : Nat) (h : isPowerOfTwo n = true) : 0 < n := by
  simp only [isPowerOfTwo, beq_iff_eq] at h
  rw [← h]
  exact Nat.two_pow_pos _

/-! ### The video side and the mapper -/

/-- R248: no CHR access is out of bounds. -/
theorem chrIndex_lt (mapper : Mapper) (chrUnits a : Nat) (h : 0 < chrUnits) :
    chrIndex mapper chrUnits a < chrUnits * chrUnitSize := by
  have h1 : chrUnit chrUnits (chrWindowUnit mapper (a / 1024 % 8)) < chrUnits := Nat.mod_lt _ h
  simp only [chrIndex, chrUnitSize]
  omega

/-- R260: no nametable access is out of bounds. -/
theorem ntIndex_lt (m : Mirroring) (a : Nat) : ntIndex m a < vramSize := by
  have h : nametableHalf m (a / 1024 % 4) ≤ 1 := by cases m <;> simp only [nametableHalf] <;> omega
  simp only [ntIndex, vramSize]
  omega

theorem State.vwrite_wf (s : State) (a : Word) (v : Byte) (h : s.wf = true) : (s.vwrite a v).wf = true := by
  rw [State.wf_iff] at h ⊢
  unfold State.vwrite
  split <;> rename_i i hi
  · split
    · refine ⟨h.ram, h.wram, h.vram, h.flat, h.prg, ?_, h.prgBanks, h.chrUnits, h.irq⟩
      refine Memory.wf_set _ _ _ v h.chr ?_
      unfold State.videoRegion at hi
      dsimp only at hi
      split at hi
      · simp only [VideoRegion.chr.injEq] at hi
        rw [← hi]
        exact chrIndex_lt _ _ _ (isPowerOfTwo_pos _ h.chrUnits)
      · split at hi <;> simp only [reduceCtorEq] at hi
    · exact h
  · refine ⟨h.ram, h.wram, ?_, h.flat, h.prg, h.chr, h.prgBanks, h.chrUnits, h.irq⟩
    refine Memory.wf_set _ _ _ v h.vram ?_
    unfold State.videoRegion at hi
    dsimp only at hi
    split at hi
    · simp only [reduceCtorEq] at hi
    · split at hi
      · simp only [VideoRegion.nametable.injEq] at hi
        rw [← hi]
        exact ntIndex_lt _ _
      · simp only [reduceCtorEq] at hi
  · exact h

/-- R265: after `UpdateIrq` the line agrees with its sources. -/
theorem irqAgrees_or (b : BusKind) (x y : Bool) : irqAgrees b (x || y) x y = true := by
  cases b <;> simp [irqAgrees]

theorem State.setExtIrq_wf (s : State) (b : Bool) (h : s.wf = true) : (s.setExtIrq b).wf = true := by
  rw [State.wf_iff] at h ⊢
  exact ⟨h.ram, h.wram, h.vram, h.flat, h.prg, h.chr, h.prgBanks, h.chrUnits, irqAgrees_or _ _ _⟩

theorem State.setMapperIrq_wf (s : State) (b : Bool) (h : s.wf = true) : (s.setMapperIrq b).wf = true := by
  rw [State.wf_iff] at h ⊢
  exact ⟨h.ram, h.wram, h.vram, h.flat, h.prg, h.chr, h.prgBanks, h.chrUnits, irqAgrees_or _ _ _⟩

theorem State.setMapper_wf (s : State) (m : Mapper) (h : s.wf = true) : (s.setMapper m).wf = true := by
  rw [State.wf_iff] at h ⊢
  exact ⟨h.ram, h.wram, h.vram, h.flat, h.prg, h.chr, h.prgBanks, h.chrUnits, h.irq⟩

theorem State.setMirroring_wf (s : State) (m : Mirroring) (h : s.wf = true) : (s.setMirroring m).wf = true := by
  rw [State.wf_iff] at h ⊢
  exact ⟨h.ram, h.wram, h.vram, h.flat, h.prg, h.chr, h.prgBanks, h.chrUnits, h.irq⟩

theorem State.notifyScanlineEdge_wf (s : State) (h : s.wf = true) : s.notifyScanlineEdge.wf = true := by
  unfold State.notifyScanlineEdge
  split
  · split
    · exact s.setMapper_wf _ h
    · dsimp only
      split
      · exact State.setMapperIrq_wf _ _ (s.setMapper_wf _ h)
      · exact s.setMapper_wf _ h
  · exact h
  · exact h

theorem State.notifyChrRead_wf (s : State) (a : Word) (h : s.wf = true) : (s.notifyChrRead a).wf = true := by
  unfold State.notifyChrRead
  split
  · exact s.setMapper_wf _ h
  · exact h
  · exact h

theorem State.mapperWrite_wf (s : State) (a : Word) (v : Byte) (h : s.wf = true) : (s.mapperWrite a v).wf = true := by
  unfold State.mapperWrite
  split
  · exact h
  · unfold State.scanlineWrite
    dsimp only
    repeat' split
    all_goals first
      | exact h
      | exact s.setMapper_wf _ h
      | exact s.setMirroring_wf _ h
      | exact State.setMapperIrq_wf _ _ (s.setMapper_wf _ h)
  · unfold State.chrLatchWrite
    dsimp only
    repeat' split
    all_goals exact h

/-! ### Device accesses -/

theorem State.applyEffect_wf (e : DeviceEffect) (s : State) (h : s.wf = true) : (s.applyEffect e).wf = true := by
  cases e with
  | setExtIrq b => exact s.setExtIrq_wf b h
  | notifyChrRead a => exact s.notifyChrRead_wf a h
  | notifyScanlineEdge => exact s.notifyScanlineEdge_wf h
  | chrWrite a v => exact s.vwrite_wf a v h
  | ntWrite a v => exact s.vwrite_wf a v h

theorem State.applyEffects_wf (es : List DeviceEffect) (s : State) (h : s.wf = true) : (s.applyEffects es).wf = true := by
  induction es generalizing s with
  | nil => exact h
  | cons e rest ih => exact ih (s.applyEffect e) (s.applyEffect_wf e h)

theorem State.tickDevice_wf (s : State) (h : s.wf = true) : s.tickDevice.wf = true := by
  rw [State.wf_iff] at h ⊢
  exact ⟨h.ram, h.wram, h.vram, h.flat, h.prg, h.chr, h.prgBanks, h.chrUnits, h.irq⟩

/-! ### The memory trait, the stack, the interrupt entry and the return -/

theorem State.read8_wf (s : State) (a : Word) (h : s.wf = true) : (s.read8 a).2.wf = true := by
  unfold State.read8
  split
  · exact State.tickDevice_wf _ (s.applyEffects_wf _ h)
  · exact h

theorem State.write8_wf (s : State) (a : Word) (v : Byte) (h : s.wf = true) : (s.write8 a v).wf = true := by
  have hb := region_bounds s.params a
  have hw := (State.wf_iff s).1 h
  unfold State.write8
  split
  · rename_i i hi
    exact (State.wf_iff _).2 ⟨hw.ram, hw.wram, hw.vram, Memory.wf_set _ _ _ v hw.flat (hb.2.2 i hi), hw.prg, hw.chr,
      hw.prgBanks, hw.chrUnits, hw.irq⟩
  · rename_i i hi
    exact (State.wf_iff _).2 ⟨Memory.wf_set _ _ _ v hw.ram (hb.1 i hi), hw.wram, hw.vram, hw.flat, hw.prg, hw.chr,
      hw.prgBanks, hw.chrUnits, hw.irq⟩
  · rename_i i hi
    exact (State.wf_iff _).2 ⟨hw.ram, Memory.wf_set _ _ _ v hw.wram (hb.2.1 i hi), hw.vram, hw.flat, hw.prg, hw.chr,
      hw.prgBanks, hw.chrUnits, hw.irq⟩
  · exact State.tickDevice_wf _ (s.applyEffects_wf _ h)
  · exact s.mapperWrite_wf a v h
  · exact h

theorem State.read16_wf (s : State) (a : Word) (h : s.wf = true) : (s.read16 a).2.wf = true :=
  State.read8_wf _ _ (s.read8_wf a h)

theorem State.push_wf (s : State) (v : Byte) (h : s.wf = true) : (s.push v).wf = true :=
  s.write8_wf (stackAddr s.reg.s) v h

theorem State.pushWord_wf (s : State) (w : Word) (h : s.wf = true) : (s.pushWord w).wf = true :=
  State.push_wf _ _ (s.push_wf _ h)

theorem State.pull_wf (s : State) (h : s.wf = true) : s.pull.2.wf = true :=
  State.read8_wf _ _ (show (s.setS (s.reg.s + 1)).wf = true from h)

theorem State.pullWord_wf (s : State) (h : s.wf = true) : s.pullWord.2.wf = true :=
  State.pull_wf _ (s.pull_wf h)

theorem State.interrupt_wf (s : State) (vector : Word) (b : Bool) (r : Word) (h : s.wf = true) :
    (s.interrupt vector b r).wf = true :=
  State.read16_wf _ vector (State.push_wf _ _ (s.pushWord_wf r h))

theorem State.returnFromInterrupt_wf (s : State) (h : s.wf = true) : s.returnFromInterrupt.wf = true :=
  State.pullWord_wf _ (s.pull_wf h)

theorem State.fetch_wf (s : State) (h : s.wf = true) : s.fetch.2.wf = true := s.read8_wf s.reg.pc h

theorem State.fetchInstr_wf (s : State) (h : s.wf = true) : s.fetchInstr.2.wf = true := by
  unfold State.fetchInstr
  dsimp only
  split
  · exact s.fetch_wf h
  · exact State.fetch_wf _ (s.fetch_wf h)
  · exact State.fetch_wf _ (State.fetch_wf _ (s.fetch_wf h))

theorem State.cpuReset_wf (s : State) (h : s.wf = true) : s.cpuReset.wf = true :=
  State.read16_wf _ resetVector h

/-! ### The resolver -/

theorem resolve_wf (o : Operand) (s : State) (h : s.wf = true) : (resolve o s).state.wf = true := by
  cases o with
  | ind w => exact State.read8_wf _ _ (s.read8_wf _ h)
  | izx b => exact State.read8_wf _ _ (s.read8_wf _ h)
  | izy b => exact State.read8_wf _ _ (s.read8_wf _ h)
  | _ => exact h

theorem fetchOperand_wf (o : Operand) (r : Resolved) (h : r.state.wf = true) : (r.fetchOperand o).2.wf = true := by
  cases o with
  | imm b => exact h
  | _ => exact State.read8_wf _ _ h

end Sys2Proof.Machine
end

