-- ==== Sys2Proof/Laws/Instr.lean ====
section
/-! SUPPORT. The instruction shapes: what each answers, said once, and what the resolver leaves alone. Every meaning is one of
these shapes over one operation, so a proof about an instruction cites the lemma of its shape. -/

namespace Sys2Proof.Machine

open Sys2Proof.Config

/-! ### The resolver -/

/-- R100: "The resolver reads X, Y, PC and memory; it writes only PC", and PC is already past the operand bytes. -/
theorem resolve_keepsCpu (o : Operand) (s : State) : KeepsCpu s (resolve o s).state := by
  cases o with
  | ind w => exact (s.read8_keepsCpu _).trans (State.read8_keepsCpu _ _)
  | izx b => exact (s.read8_keepsCpu _).trans (State.read8_keepsCpu _ _)
  | izy b => exact (s.read8_keepsCpu _).trans (State.read8_keepsCpu _ _)
  | _ => exact KeepsCpu.refl s

theorem resolve_keepsMemory (o : Operand) (s : State) : KeepsCpuMemory s (resolve o s).state := by
  cases o with
  | ind w => exact (s.read8_keepsMemory _).trans (State.read8_keepsMemory _ _)
  | izx b => exact (s.read8_keepsMemory _).trans (State.read8_keepsMemory _ _)
  | izy b => exact (s.read8_keepsMemory _).trans (State.read8_keepsMemory _ _)
  | _ => exact KeepsCpuMemory.refl s

@[simp] theorem resolve_reg (o : Operand) (s : State) : (resolve o s).state.reg = s.reg := (resolve_keepsCpu o s).reg
@[simp] theorem resolve_params (o : Operand) (s : State) : (resolve o s).state.params = s.params :=
  (resolve_keepsCpu o s).params

theorem fetchOperand_keepsCpu (o : Operand) (r : Resolved) : KeepsCpu r.state (r.fetchOperand o).2 := by
  cases o with
  | imm b => exact KeepsCpu.refl _
  | _ => exact State.read8_keepsCpu _ _

theorem fetchOperand_keepsMemory (o : Operand) (r : Resolved) : KeepsCpuMemory r.state (r.fetchOperand o).2 := by
  cases o with
  | imm b => exact KeepsCpuMemory.refl _
  | _ => exact State.read8_keepsMemory _ _

@[simp] theorem fetchOperand_reg (o : Operand) (r : Resolved) : (r.fetchOperand o).2.reg = r.state.reg :=
  (fetchOperand_keepsCpu o r).reg
@[simp] theorem fetchOperand_params (o : Operand) (r : Resolved) : (r.fetchOperand o).2.params = r.state.params :=
  (fetchOperand_keepsCpu o r).params

/-- R114: the penalty is the page-cross bit. -/
theorem Resolved.penalty_eq (r : Resolved) : r.penalty = if r.crossed then 1 else 0 := rfl

/-! ### The shapes -/

/-- R115, class "read". -/
theorem readInstr_eq (c : Nat) (p : Bool) (o : Operand) (op : Byte → State → State) (s : State) :
    readInstr c p o op s =
      .next ((op ((resolve o s).fetchOperand o).1 ((resolve o s).fetchOperand o).2).took
        (c + if p then (resolve o s).penalty else 0)) := rfl

/-- R115, class "store". -/
theorem storeInstr_eq (c : Nat) (o : Operand) (v : Byte) (s : State) :
    storeInstr c o v s = .next (((resolve o s).state.write8 (resolve o s).ea v).took c) := rfl

/-- R115, class "read-modify-write". -/
theorem rmwInstr_eq (c : Nat) (o : Operand) (op : Byte → State → Byte × State) (s : State) :
    rmwInstr c o op s =
      .next ((((op ((resolve o s).state.read8 (resolve o s).ea).1 ((resolve o s).state.read8 (resolve o s).ea).2).2.write8
            (resolve o s).ea
            (op ((resolve o s).state.read8 (resolve o s).ea).1 ((resolve o s).state.read8 (resolve o s).ea).2).1).setZN
          (op ((resolve o s).state.read8 (resolve o s).ea).1 ((resolve o s).state.read8 (resolve o s).ea).2).1).took c) := rfl

theorem accInstr_eq (c : Nat) (op : Byte → State → Byte × State) (s : State) :
    accInstr c op s = .next ((((op s.reg.a s).2.setA (op s.reg.a s).1).setZN (op s.reg.a s).1).took c) := rfl

theorem impliedInstr_eq (c : Nat) (op : State → State) (s : State) : impliedInstr c op s = .next ((op s).took c) := rfl

/-- R214: a branch taken. -/
theorem branchInstr_taken (cond : Flags → Bool) (b : Byte) (s : State) (h : cond s.reg.p = true) :
    branchInstr cond b s =
      .next ((s.setPc (s.reg.pc + b.signExtend 16)).took
        (3 + if pagesDiffer (s.reg.pc + b.signExtend 16) s.reg.pc then 1 else 0)) := by
  simp only [branchInstr, h, if_true]
  rfl

/-- R214: a branch not taken. -/
theorem branchInstr_notTaken (cond : Flags → Bool) (b : Byte) (s : State) (h : cond s.reg.p = false) :
    branchInstr cond b s = .next (s.took 2) := by
  simp [branchInstr, h]

/-! ### What each shape keeps -/

/-- A read instruction changes memory in no way but by the side effects of its reads, if its operation changes registers only. -/
theorem readInstr_keepsMemory (c : Nat) (p : Bool) (o : Operand) (op : Byte → State → State) (s t : State)
    (hop : ∀ m u, (op m u).bus = u.bus) (h : readInstr c p o op s = .next t) : KeepsCpuMemory s t := by
  rw [readInstr_eq] at h
  injection h with h
  subst h
  exact ((resolve_keepsMemory o s).trans (fetchOperand_keepsMemory o _)).trans
    (KeepsCpuMemory.of_bus (by rw [State.took_bus]; exact hop _ _))

theorem readInstr_wf (c : Nat) (p : Bool) (o : Operand) (op : Byte → State → State) (s t : State)
    (hop : ∀ m u, u.wf = true → (op m u).wf = true) (hs : s.wf = true) (h : readInstr c p o op s = .next t) :
    t.wf = true := by
  rw [readInstr_eq] at h
  injection h with h
  subst h
  exact hop _ _ (fetchOperand_wf o _ (resolve_wf o s hs))

theorem storeInstr_wf (c : Nat) (o : Operand) (v : Byte) (s t : State) (hs : s.wf = true)
    (h : storeInstr c o v s = .next t) : t.wf = true := by
  rw [storeInstr_eq] at h
  injection h with h
  subst h
  exact State.write8_wf _ _ v (resolve_wf o s hs)

theorem rmwInstr_wf (c : Nat) (o : Operand) (op : Byte → State → Byte × State) (s t : State)
    (hop : ∀ m u, u.wf = true → (op m u).2.wf = true) (hs : s.wf = true) (h : rmwInstr c o op s = .next t) :
    t.wf = true := by
  rw [rmwInstr_eq] at h
  injection h with h
  subst h
  exact State.write8_wf _ _ _ (hop _ _ (State.read8_wf _ _ (resolve_wf o s hs)))

theorem branchInstr_wf (cond : Flags → Bool) (b : Byte) (s t : State) (hs : s.wf = true)
    (h : branchInstr cond b s = .next t) : t.wf = true := by
  cases hc : cond s.reg.p with
  | true => rw [branchInstr_taken cond b s hc] at h; injection h with h; subst h; exact hs
  | false => rw [branchInstr_notTaken cond b s hc] at h; injection h with h; subst h; exact hs

/-! ### Memories at reset -/

/-- No memory lists a cell at reset, so each has the canonical form. -/
theorem reset_memories_wf :
    State.reset.bus.ram.wf ramSize = true ∧ State.reset.bus.wram.wf wramSize = true ∧
      State.reset.bus.vram.wf vramSize = true ∧ State.reset.bus.flat.wf flatSize = true ∧
      State.reset.bus.prg.wf prgBankSize = true ∧ State.reset.bus.chr.wf (8 * chrUnitSize) = true :=
  ⟨rfl, rfl, rfl, rfl, rfl, rfl⟩

end Sys2Proof.Machine
end

