-- ==== Sys2Proof/Laws/PerInstr.lean ====
section
/-! SUPPORT. The family `EncodingLength`, one lemma per constructor of `Instr`: the encoding of an instruction is as long as its
mode says (R81), and that is the length its opcode byte alone gives (R81, the length table of WellFormed). -/

namespace Sys2Proof.Laws

/-- R81: the length of an instruction is a function of its opcode byte alone, through its mode. -/
def EncodingLength.Statement (i : Instr) : Prop :=
  (encode i).length = i.mode.length ∧ wfBytes (encode i) = true

theorem EncodingLength.adcImm (b : Byte) : EncodingLength.Statement (.adcImm b) := ⟨rfl, rfl⟩
theorem EncodingLength.adcZp (b : Byte) : EncodingLength.Statement (.adcZp b) := ⟨rfl, rfl⟩
theorem EncodingLength.adcZpx (b : Byte) : EncodingLength.Statement (.adcZpx b) := ⟨rfl, rfl⟩
theorem EncodingLength.adcAbs (w : Word) : EncodingLength.Statement (.adcAbs w) := ⟨rfl, rfl⟩
theorem EncodingLength.adcAbx (w : Word) : EncodingLength.Statement (.adcAbx w) := ⟨rfl, rfl⟩
theorem EncodingLength.adcAby (w : Word) : EncodingLength.Statement (.adcAby w) := ⟨rfl, rfl⟩
theorem EncodingLength.adcIzx (b : Byte) : EncodingLength.Statement (.adcIzx b) := ⟨rfl, rfl⟩
theorem EncodingLength.adcIzy (b : Byte) : EncodingLength.Statement (.adcIzy b) := ⟨rfl, rfl⟩
theorem EncodingLength.sbcImm (b : Byte) : EncodingLength.Statement (.sbcImm b) := ⟨rfl, rfl⟩
theorem EncodingLength.sbcZp (b : Byte) : EncodingLength.Statement (.sbcZp b) := ⟨rfl, rfl⟩
theorem EncodingLength.sbcZpx (b : Byte) : EncodingLength.Statement (.sbcZpx b) := ⟨rfl, rfl⟩
theorem EncodingLength.sbcAbs (w : Word) : EncodingLength.Statement (.sbcAbs w) := ⟨rfl, rfl⟩
theorem EncodingLength.sbcAbx (w : Word) : EncodingLength.Statement (.sbcAbx w) := ⟨rfl, rfl⟩
theorem EncodingLength.sbcAby (w : Word) : EncodingLength.Statement (.sbcAby w) := ⟨rfl, rfl⟩
theorem EncodingLength.sbcIzx (b : Byte) : EncodingLength.Statement (.sbcIzx b) := ⟨rfl, rfl⟩
theorem EncodingLength.sbcIzy (b : Byte) : EncodingLength.Statement (.sbcIzy b) := ⟨rfl, rfl⟩
theorem EncodingLength.incZp (b : Byte) : EncodingLength.Statement (.incZp b) := ⟨rfl, rfl⟩
theorem EncodingLength.incZpx (b : Byte) : EncodingLength.Statement (.incZpx b) := ⟨rfl, rfl⟩
theorem EncodingLength.incAbs (w : Word) : EncodingLength.Statement (.incAbs w) := ⟨rfl, rfl⟩
theorem EncodingLength.incAbx (w : Word) : EncodingLength.Statement (.incAbx w) := ⟨rfl, rfl⟩
theorem EncodingLength.decZp (b : Byte) : EncodingLength.Statement (.decZp b) := ⟨rfl, rfl⟩
theorem EncodingLength.decZpx (b : Byte) : EncodingLength.Statement (.decZpx b) := ⟨rfl, rfl⟩
theorem EncodingLength.decAbs (w : Word) : EncodingLength.Statement (.decAbs w) := ⟨rfl, rfl⟩
theorem EncodingLength.decAbx (w : Word) : EncodingLength.Statement (.decAbx w) := ⟨rfl, rfl⟩
theorem EncodingLength.inx : EncodingLength.Statement (.inx) := ⟨rfl, rfl⟩
theorem EncodingLength.iny : EncodingLength.Statement (.iny) := ⟨rfl, rfl⟩
theorem EncodingLength.dex : EncodingLength.Statement (.dex) := ⟨rfl, rfl⟩
theorem EncodingLength.dey : EncodingLength.Statement (.dey) := ⟨rfl, rfl⟩
theorem EncodingLength.andImm (b : Byte) : EncodingLength.Statement (.andImm b) := ⟨rfl, rfl⟩
theorem EncodingLength.andZp (b : Byte) : EncodingLength.Statement (.andZp b) := ⟨rfl, rfl⟩
theorem EncodingLength.andZpx (b : Byte) : EncodingLength.Statement (.andZpx b) := ⟨rfl, rfl⟩
theorem EncodingLength.andAbs (w : Word) : EncodingLength.Statement (.andAbs w) := ⟨rfl, rfl⟩
theorem EncodingLength.andAbx (w : Word) : EncodingLength.Statement (.andAbx w) := ⟨rfl, rfl⟩
theorem EncodingLength.andAby (w : Word) : EncodingLength.Statement (.andAby w) := ⟨rfl, rfl⟩
theorem EncodingLength.andIzx (b : Byte) : EncodingLength.Statement (.andIzx b) := ⟨rfl, rfl⟩
theorem EncodingLength.andIzy (b : Byte) : EncodingLength.Statement (.andIzy b) := ⟨rfl, rfl⟩
theorem EncodingLength.oraImm (b : Byte) : EncodingLength.Statement (.oraImm b) := ⟨rfl, rfl⟩
theorem EncodingLength.oraZp (b : Byte) : EncodingLength.Statement (.oraZp b) := ⟨rfl, rfl⟩
theorem EncodingLength.oraZpx (b : Byte) : EncodingLength.Statement (.oraZpx b) := ⟨rfl, rfl⟩
theorem EncodingLength.oraAbs (w : Word) : EncodingLength.Statement (.oraAbs w) := ⟨rfl, rfl⟩
theorem EncodingLength.oraAbx (w : Word) : EncodingLength.Statement (.oraAbx w) := ⟨rfl, rfl⟩
theorem EncodingLength.oraAby (w : Word) : EncodingLength.Statement (.oraAby w) := ⟨rfl, rfl⟩
theorem EncodingLength.oraIzx (b : Byte) : EncodingLength.Statement (.oraIzx b) := ⟨rfl, rfl⟩
theorem EncodingLength.oraIzy (b : Byte) : EncodingLength.Statement (.oraIzy b) := ⟨rfl, rfl⟩
theorem EncodingLength.eorImm (b : Byte) : EncodingLength.Statement (.eorImm b) := ⟨rfl, rfl⟩
theorem EncodingLength.eorZp (b : Byte) : EncodingLength.Statement (.eorZp b) := ⟨rfl, rfl⟩
theorem EncodingLength.eorZpx (b : Byte) : EncodingLength.Statement (.eorZpx b) := ⟨rfl, rfl⟩
theorem EncodingLength.eorAbs (w : Word) : EncodingLength.Statement (.eorAbs w) := ⟨rfl, rfl⟩
theorem EncodingLength.eorAbx (w : Word) : EncodingLength.Statement (.eorAbx w) := ⟨rfl, rfl⟩
theorem EncodingLength.eorAby (w : Word) : EncodingLength.Statement (.eorAby w) := ⟨rfl, rfl⟩
theorem EncodingLength.eorIzx (b : Byte) : EncodingLength.Statement (.eorIzx b) := ⟨rfl, rfl⟩
theorem EncodingLength.eorIzy (b : Byte) : EncodingLength.Statement (.eorIzy b) := ⟨rfl, rfl⟩
theorem EncodingLength.bitZp (b : Byte) : EncodingLength.Statement (.bitZp b) := ⟨rfl, rfl⟩
theorem EncodingLength.bitAbs (w : Word) : EncodingLength.Statement (.bitAbs w) := ⟨rfl, rfl⟩
theorem EncodingLength.cmpImm (b : Byte) : EncodingLength.Statement (.cmpImm b) := ⟨rfl, rfl⟩
theorem EncodingLength.cmpZp (b : Byte) : EncodingLength.Statement (.cmpZp b) := ⟨rfl, rfl⟩
theorem EncodingLength.cmpZpx (b : Byte) : EncodingLength.Statement (.cmpZpx b) := ⟨rfl, rfl⟩
theorem EncodingLength.cmpAbs (w : Word) : EncodingLength.Statement (.cmpAbs w) := ⟨rfl, rfl⟩
theorem EncodingLength.cmpAbx (w : Word) : EncodingLength.Statement (.cmpAbx w) := ⟨rfl, rfl⟩
theorem EncodingLength.cmpAby (w : Word) : EncodingLength.Statement (.cmpAby w) := ⟨rfl, rfl⟩
theorem EncodingLength.cmpIzx (b : Byte) : EncodingLength.Statement (.cmpIzx b) := ⟨rfl, rfl⟩
theorem EncodingLength.cmpIzy (b : Byte) : EncodingLength.Statement (.cmpIzy b) := ⟨rfl, rfl⟩
theorem EncodingLength.cpxImm (b : Byte) : EncodingLength.Statement (.cpxImm b) := ⟨rfl, rfl⟩
theorem EncodingLength.cpxZp (b : Byte) : EncodingLength.Statement (.cpxZp b) := ⟨rfl, rfl⟩
theorem EncodingLength.cpxAbs (w : Word) : EncodingLength.Statement (.cpxAbs w) := ⟨rfl, rfl⟩
theorem EncodingLength.cpyImm (b : Byte) : EncodingLength.Statement (.cpyImm b) := ⟨rfl, rfl⟩
theorem EncodingLength.cpyZp (b : Byte) : EncodingLength.Statement (.cpyZp b) := ⟨rfl, rfl⟩
theorem EncodingLength.cpyAbs (w : Word) : EncodingLength.Statement (.cpyAbs w) := ⟨rfl, rfl⟩
theorem EncodingLength.aslAcc : EncodingLength.Statement (.aslAcc) := ⟨rfl, rfl⟩
theorem EncodingLength.aslZp (b : Byte) : EncodingLength.Statement (.aslZp b) := ⟨rfl, rfl⟩
theorem EncodingLength.aslZpx (b : Byte) : EncodingLength.Statement (.aslZpx b) := ⟨rfl, rfl⟩
theorem EncodingLength.aslAbs (w : Word) : EncodingLength.Statement (.aslAbs w) := ⟨rfl, rfl⟩
theorem EncodingLength.aslAbx (w : Word) : EncodingLength.Statement (.aslAbx w) := ⟨rfl, rfl⟩
theorem EncodingLength.lsrAcc : EncodingLength.Statement (.lsrAcc) := ⟨rfl, rfl⟩
theorem EncodingLength.lsrZp (b : Byte) : EncodingLength.Statement (.lsrZp b) := ⟨rfl, rfl⟩
theorem EncodingLength.lsrZpx (b : Byte) : EncodingLength.Statement (.lsrZpx b) := ⟨rfl, rfl⟩
theorem EncodingLength.lsrAbs (w : Word) : EncodingLength.Statement (.lsrAbs w) := ⟨rfl, rfl⟩
theorem EncodingLength.lsrAbx (w : Word) : EncodingLength.Statement (.lsrAbx w) := ⟨rfl, rfl⟩
theorem EncodingLength.rolAcc : EncodingLength.Statement (.rolAcc) := ⟨rfl, rfl⟩
theorem EncodingLength.rolZp (b : Byte) : EncodingLength.Statement (.rolZp b) := ⟨rfl, rfl⟩
theorem EncodingLength.rolZpx (b : Byte) : EncodingLength.Statement (.rolZpx b) := ⟨rfl, rfl⟩
theorem EncodingLength.rolAbs (w : Word) : EncodingLength.Statement (.rolAbs w) := ⟨rfl, rfl⟩
theorem EncodingLength.rolAbx (w : Word) : EncodingLength.Statement (.rolAbx w) := ⟨rfl, rfl⟩
theorem EncodingLength.rorAcc : EncodingLength.Statement (.rorAcc) := ⟨rfl, rfl⟩
theorem EncodingLength.rorZp (b : Byte) : EncodingLength.Statement (.rorZp b) := ⟨rfl, rfl⟩
theorem EncodingLength.rorZpx (b : Byte) : EncodingLength.Statement (.rorZpx b) := ⟨rfl, rfl⟩
theorem EncodingLength.rorAbs (w : Word) : EncodingLength.Statement (.rorAbs w) := ⟨rfl, rfl⟩
theorem EncodingLength.rorAbx (w : Word) : EncodingLength.Statement (.rorAbx w) := ⟨rfl, rfl⟩
theorem EncodingLength.ldaImm (b : Byte) : EncodingLength.Statement (.ldaImm b) := ⟨rfl, rfl⟩
theorem EncodingLength.ldaZp (b : Byte) : EncodingLength.Statement (.ldaZp b) := ⟨rfl, rfl⟩
theorem EncodingLength.ldaZpx (b : Byte) : EncodingLength.Statement (.ldaZpx b) := ⟨rfl, rfl⟩
theorem EncodingLength.ldaAbs (w : Word) : EncodingLength.Statement (.ldaAbs w) := ⟨rfl, rfl⟩
theorem EncodingLength.ldaAbx (w : Word) : EncodingLength.Statement (.ldaAbx w) := ⟨rfl, rfl⟩
theorem EncodingLength.ldaAby (w : Word) : EncodingLength.Statement (.ldaAby w) := ⟨rfl, rfl⟩
theorem EncodingLength.ldaIzx (b : Byte) : EncodingLength.Statement (.ldaIzx b) := ⟨rfl, rfl⟩
theorem EncodingLength.ldaIzy (b : Byte) : EncodingLength.Statement (.ldaIzy b) := ⟨rfl, rfl⟩
theorem EncodingLength.ldxImm (b : Byte) : EncodingLength.Statement (.ldxImm b) := ⟨rfl, rfl⟩
theorem EncodingLength.ldxZp (b : Byte) : EncodingLength.Statement (.ldxZp b) := ⟨rfl, rfl⟩
theorem EncodingLength.ldxZpy (b : Byte) : EncodingLength.Statement (.ldxZpy b) := ⟨rfl, rfl⟩
theorem EncodingLength.ldxAbs (w : Word) : EncodingLength.Statement (.ldxAbs w) := ⟨rfl, rfl⟩
theorem EncodingLength.ldxAby (w : Word) : EncodingLength.Statement (.ldxAby w) := ⟨rfl, rfl⟩
theorem EncodingLength.ldyImm (b : Byte) : EncodingLength.Statement (.ldyImm b) := ⟨rfl, rfl⟩
theorem EncodingLength.ldyZp (b : Byte) : EncodingLength.Statement (.ldyZp b) := ⟨rfl, rfl⟩
theorem EncodingLength.ldyZpx (b : Byte) : EncodingLength.Statement (.ldyZpx b) := ⟨rfl, rfl⟩
theorem EncodingLength.ldyAbs (w : Word) : EncodingLength.Statement (.ldyAbs w) := ⟨rfl, rfl⟩
theorem EncodingLength.ldyAbx (w : Word) : EncodingLength.Statement (.ldyAbx w) := ⟨rfl, rfl⟩
theorem EncodingLength.staZp (b : Byte) : EncodingLength.Statement (.staZp b) := ⟨rfl, rfl⟩
theorem EncodingLength.staZpx (b : Byte) : EncodingLength.Statement (.staZpx b) := ⟨rfl, rfl⟩
theorem EncodingLength.staAbs (w : Word) : EncodingLength.Statement (.staAbs w) := ⟨rfl, rfl⟩
theorem EncodingLength.staAbx (w : Word) : EncodingLength.Statement (.staAbx w) := ⟨rfl, rfl⟩
theorem EncodingLength.staAby (w : Word) : EncodingLength.Statement (.staAby w) := ⟨rfl, rfl⟩
theorem EncodingLength.staIzx (b : Byte) : EncodingLength.Statement (.staIzx b) := ⟨rfl, rfl⟩
theorem EncodingLength.staIzy (b : Byte) : EncodingLength.Statement (.staIzy b) := ⟨rfl, rfl⟩
theorem EncodingLength.stxZp (b : Byte) : EncodingLength.Statement (.stxZp b) := ⟨rfl, rfl⟩
theorem EncodingLength.stxZpy (b : Byte) : EncodingLength.Statement (.stxZpy b) := ⟨rfl, rfl⟩
theorem EncodingLength.stxAbs (w : Word) : EncodingLength.Statement (.stxAbs w) := ⟨rfl, rfl⟩
theorem EncodingLength.styZp (b : Byte) : EncodingLength.Statement (.styZp b) := ⟨rfl, rfl⟩
theorem EncodingLength.styZpx (b : Byte) : EncodingLength.Statement (.styZpx b) := ⟨rfl, rfl⟩
theorem EncodingLength.styAbs (w : Word) : EncodingLength.Statement (.styAbs w) := ⟨rfl, rfl⟩
theorem EncodingLength.tax : EncodingLength.Statement (.tax) := ⟨rfl, rfl⟩
theorem EncodingLength.tay : EncodingLength.Statement (.tay) := ⟨rfl, rfl⟩
theorem EncodingLength.txa : EncodingLength.Statement (.txa) := ⟨rfl, rfl⟩
theorem EncodingLength.tya : EncodingLength.Statement (.tya) := ⟨rfl, rfl⟩
theorem EncodingLength.tsx : EncodingLength.Statement (.tsx) := ⟨rfl, rfl⟩
theorem EncodingLength.txs : EncodingLength.Statement (.txs) := ⟨rfl, rfl⟩
theorem EncodingLength.pha : EncodingLength.Statement (.pha) := ⟨rfl, rfl⟩
theorem EncodingLength.php : EncodingLength.Statement (.php) := ⟨rfl, rfl⟩
theorem EncodingLength.pla : EncodingLength.Statement (.pla) := ⟨rfl, rfl⟩
theorem EncodingLength.plp : EncodingLength.Statement (.plp) := ⟨rfl, rfl⟩
theorem EncodingLength.clc : EncodingLength.Statement (.clc) := ⟨rfl, rfl⟩
theorem EncodingLength.sec : EncodingLength.Statement (.sec) := ⟨rfl, rfl⟩
theorem EncodingLength.cli : EncodingLength.Statement (.cli) := ⟨rfl, rfl⟩
theorem EncodingLength.sei : EncodingLength.Statement (.sei) := ⟨rfl, rfl⟩
theorem EncodingLength.cld : EncodingLength.Statement (.cld) := ⟨rfl, rfl⟩
theorem EncodingLength.sed : EncodingLength.Statement (.sed) := ⟨rfl, rfl⟩
theorem EncodingLength.clv : EncodingLength.Statement (.clv) := ⟨rfl, rfl⟩
theorem EncodingLength.nop : EncodingLength.Statement (.nop) := ⟨rfl, rfl⟩
theorem EncodingLength.jmpAbs (w : Word) : EncodingLength.Statement (.jmpAbs w) := ⟨rfl, rfl⟩
theorem EncodingLength.jmpInd (w : Word) : EncodingLength.Statement (.jmpInd w) := ⟨rfl, rfl⟩
theorem EncodingLength.jsr (w : Word) : EncodingLength.Statement (.jsr w) := ⟨rfl, rfl⟩
theorem EncodingLength.rts : EncodingLength.Statement (.rts) := ⟨rfl, rfl⟩
theorem EncodingLength.bcc (b : Byte) : EncodingLength.Statement (.bcc b) := ⟨rfl, rfl⟩
theorem EncodingLength.bcs (b : Byte) : EncodingLength.Statement (.bcs b) := ⟨rfl, rfl⟩
theorem EncodingLength.beq (b : Byte) : EncodingLength.Statement (.beq b) := ⟨rfl, rfl⟩
theorem EncodingLength.bne (b : Byte) : EncodingLength.Statement (.bne b) := ⟨rfl, rfl⟩
theorem EncodingLength.bmi (b : Byte) : EncodingLength.Statement (.bmi b) := ⟨rfl, rfl⟩
theorem EncodingLength.bpl (b : Byte) : EncodingLength.Statement (.bpl b) := ⟨rfl, rfl⟩
theorem EncodingLength.bvc (b : Byte) : EncodingLength.Statement (.bvc b) := ⟨rfl, rfl⟩
theorem EncodingLength.bvs (b : Byte) : EncodingLength.Statement (.bvs b) := ⟨rfl, rfl⟩
theorem EncodingLength.brk : EncodingLength.Statement (.brk) := ⟨rfl, rfl⟩
theorem EncodingLength.rti : EncodingLength.Statement (.rti) := ⟨rfl, rfl⟩
theorem EncodingLength.und02 : EncodingLength.Statement (.und02) := ⟨rfl, rfl⟩
theorem EncodingLength.und03 : EncodingLength.Statement (.und03) := ⟨rfl, rfl⟩
theorem EncodingLength.und04 : EncodingLength.Statement (.und04) := ⟨rfl, rfl⟩
theorem EncodingLength.und07 : EncodingLength.Statement (.und07) := ⟨rfl, rfl⟩
theorem EncodingLength.und0B : EncodingLength.Statement (.und0B) := ⟨rfl, rfl⟩
theorem EncodingLength.und0C : EncodingLength.Statement (.und0C) := ⟨rfl, rfl⟩
theorem EncodingLength.und0F : EncodingLength.Statement (.und0F) := ⟨rfl, rfl⟩
theorem EncodingLength.und12 : EncodingLength.Statement (.und12) := ⟨rfl, rfl⟩
theorem EncodingLength.und13 : EncodingLength.Statement (.und13) := ⟨rfl, rfl⟩
theorem EncodingLength.und14 : EncodingLength.Statement (.und14) := ⟨rfl, rfl⟩
theorem EncodingLength.und17 : EncodingLength.Statement (.und17) := ⟨rfl, rfl⟩
theorem EncodingLength.und1A : EncodingLength.Statement (.und1A) := ⟨rfl, rfl⟩
theorem EncodingLength.und1B : EncodingLength.Statement (.und1B) := ⟨rfl, rfl⟩
theorem EncodingLength.und1C : EncodingLength.Statement (.und1C) := ⟨rfl, rfl⟩
theorem EncodingLength.und1F : EncodingLength.Statement (.und1F) := ⟨rfl, rfl⟩
theorem EncodingLength.und22 : EncodingLength.Statement (.und22) := ⟨rfl, rfl⟩
theorem EncodingLength.und23 : EncodingLength.Statement (.und23) := ⟨rfl, rfl⟩
theorem EncodingLength.und27 : EncodingLength.Statement (.und27) := ⟨rfl, rfl⟩
theorem EncodingLength.und2B : EncodingLength.Statement (.und2B) := ⟨rfl, rfl⟩
theorem EncodingLength.und2F : EncodingLength.Statement (.und2F) := ⟨rfl, rfl⟩
theorem EncodingLength.und32 : EncodingLength.Statement (.und32) := ⟨rfl, rfl⟩
theorem EncodingLength.und33 : EncodingLength.Statement (.und33) := ⟨rfl, rfl⟩
theorem EncodingLength.und34 : EncodingLength.Statement (.und34) := ⟨rfl, rfl⟩
theorem EncodingLength.und37 : EncodingLength.Statement (.und37) := ⟨rfl, rfl⟩
theorem EncodingLength.und3A : EncodingLength.Statement (.und3A) := ⟨rfl, rfl⟩
theorem EncodingLength.und3B : EncodingLength.Statement (.und3B) := ⟨rfl, rfl⟩
theorem EncodingLength.und3C : EncodingLength.Statement (.und3C) := ⟨rfl, rfl⟩
theorem EncodingLength.und3F : EncodingLength.Statement (.und3F) := ⟨rfl, rfl⟩
theorem EncodingLength.und42 : EncodingLength.Statement (.und42) := ⟨rfl, rfl⟩
theorem EncodingLength.und43 : EncodingLength.Statement (.und43) := ⟨rfl, rfl⟩
theorem EncodingLength.und44 : EncodingLength.Statement (.und44) := ⟨rfl, rfl⟩
theorem EncodingLength.und47 : EncodingLength.Statement (.und47) := ⟨rfl, rfl⟩
theorem EncodingLength.und4B : EncodingLength.Statement (.und4B) := ⟨rfl, rfl⟩
theorem EncodingLength.und4F : EncodingLength.Statement (.und4F) := ⟨rfl, rfl⟩
theorem EncodingLength.und52 : EncodingLength.Statement (.und52) := ⟨rfl, rfl⟩
theorem EncodingLength.und53 : EncodingLength.Statement (.und53) := ⟨rfl, rfl⟩
theorem EncodingLength.und54 : EncodingLength.Statement (.und54) := ⟨rfl, rfl⟩
theorem EncodingLength.und57 : EncodingLength.Statement (.und57) := ⟨rfl, rfl⟩
theorem EncodingLength.und5A : EncodingLength.Statement (.und5A) := ⟨rfl, rfl⟩
theorem EncodingLength.und5B : EncodingLength.Statement (.und5B) := ⟨rfl, rfl⟩
theorem EncodingLength.und5C : EncodingLength.Statement (.und5C) := ⟨rfl, rfl⟩
theorem EncodingLength.und5F : EncodingLength.Statement (.und5F) := ⟨rfl, rfl⟩
theorem EncodingLength.und62 : EncodingLength.Statement (.und62) := ⟨rfl, rfl⟩
theorem EncodingLength.und63 : EncodingLength.Statement (.und63) := ⟨rfl, rfl⟩
theorem EncodingLength.und64 : EncodingLength.Statement (.und64) := ⟨rfl, rfl⟩
theorem EncodingLength.und67 : EncodingLength.Statement (.und67) := ⟨rfl, rfl⟩
theorem EncodingLength.und6B : EncodingLength.Statement (.und6B) := ⟨rfl, rfl⟩
theorem EncodingLength.und6F : EncodingLength.Statement (.und6F) := ⟨rfl, rfl⟩
theorem EncodingLength.und72 : EncodingLength.Statement (.und72) := ⟨rfl, rfl⟩
theorem EncodingLength.und73 : EncodingLength.Statement (.und73) := ⟨rfl, rfl⟩
theorem EncodingLength.und74 : EncodingLength.Statement (.und74) := ⟨rfl, rfl⟩
theorem EncodingLength.und77 : EncodingLength.Statement (.und77) := ⟨rfl, rfl⟩
theorem EncodingLength.und7A : EncodingLength.Statement (.und7A) := ⟨rfl, rfl⟩
theorem EncodingLength.und7B : EncodingLength.Statement (.und7B) := ⟨rfl, rfl⟩
theorem EncodingLength.und7C : EncodingLength.Statement (.und7C) := ⟨rfl, rfl⟩
theorem EncodingLength.und7F : EncodingLength.Statement (.und7F) := ⟨rfl, rfl⟩
theorem EncodingLength.und80 : EncodingLength.Statement (.und80) := ⟨rfl, rfl⟩
theorem EncodingLength.und82 : EncodingLength.Statement (.und82) := ⟨rfl, rfl⟩
theorem EncodingLength.und83 : EncodingLength.Statement (.und83) := ⟨rfl, rfl⟩
theorem EncodingLength.und87 : EncodingLength.Statement (.und87) := ⟨rfl, rfl⟩
theorem EncodingLength.und89 : EncodingLength.Statement (.und89) := ⟨rfl, rfl⟩
theorem EncodingLength.und8B : EncodingLength.Statement (.und8B) := ⟨rfl, rfl⟩
theorem EncodingLength.und8F : EncodingLength.Statement (.und8F) := ⟨rfl, rfl⟩
theorem EncodingLength.und92 : EncodingLength.Statement (.und92) := ⟨rfl, rfl⟩
theorem EncodingLength.und93 : EncodingLength.Statement (.und93) := ⟨rfl, rfl⟩
theorem EncodingLength.und97 : EncodingLength.Statement (.und97) := ⟨rfl, rfl⟩
theorem EncodingLength.und9B : EncodingLength.Statement (.und9B) := ⟨rfl, rfl⟩
theorem EncodingLength.und9C : EncodingLength.Statement (.und9C) := ⟨rfl, rfl⟩
theorem EncodingLength.und9E : EncodingLength.Statement (.und9E) := ⟨rfl, rfl⟩
theorem EncodingLength.und9F : EncodingLength.Statement (.und9F) := ⟨rfl, rfl⟩
theorem EncodingLength.undA3 : EncodingLength.Statement (.undA3) := ⟨rfl, rfl⟩
theorem EncodingLength.undA7 : EncodingLength.Statement (.undA7) := ⟨rfl, rfl⟩
theorem EncodingLength.undAB : EncodingLength.Statement (.undAB) := ⟨rfl, rfl⟩
theorem EncodingLength.undAF : EncodingLength.Statement (.undAF) := ⟨rfl, rfl⟩
theorem EncodingLength.undB2 : EncodingLength.Statement (.undB2) := ⟨rfl, rfl⟩
theorem EncodingLength.undB3 : EncodingLength.Statement (.undB3) := ⟨rfl, rfl⟩
theorem EncodingLength.undB7 : EncodingLength.Statement (.undB7) := ⟨rfl, rfl⟩
theorem EncodingLength.undBB : EncodingLength.Statement (.undBB) := ⟨rfl, rfl⟩
theorem EncodingLength.undBF : EncodingLength.Statement (.undBF) := ⟨rfl, rfl⟩
theorem EncodingLength.undC2 : EncodingLength.Statement (.undC2) := ⟨rfl, rfl⟩
theorem EncodingLength.undC3 : EncodingLength.Statement (.undC3) := ⟨rfl, rfl⟩
theorem EncodingLength.undC7 : EncodingLength.Statement (.undC7) := ⟨rfl, rfl⟩
theorem EncodingLength.undCB : EncodingLength.Statement (.undCB) := ⟨rfl, rfl⟩
theorem EncodingLength.undCF : EncodingLength.Statement (.undCF) := ⟨rfl, rfl⟩
theorem EncodingLength.undD2 : EncodingLength.Statement (.undD2) := ⟨rfl, rfl⟩
theorem EncodingLength.undD3 : EncodingLength.Statement (.undD3) := ⟨rfl, rfl⟩
theorem EncodingLength.undD4 : EncodingLength.Statement (.undD4) := ⟨rfl, rfl⟩
theorem EncodingLength.undD7 : EncodingLength.Statement (.undD7) := ⟨rfl, rfl⟩
theorem EncodingLength.undDA : EncodingLength.Statement (.undDA) := ⟨rfl, rfl⟩
theorem EncodingLength.undDB : EncodingLength.Statement (.undDB) := ⟨rfl, rfl⟩
theorem EncodingLength.undDC : EncodingLength.Statement (.undDC) := ⟨rfl, rfl⟩
theorem EncodingLength.undDF : EncodingLength.Statement (.undDF) := ⟨rfl, rfl⟩
theorem EncodingLength.undE2 : EncodingLength.Statement (.undE2) := ⟨rfl, rfl⟩
theorem EncodingLength.undE3 : EncodingLength.Statement (.undE3) := ⟨rfl, rfl⟩
theorem EncodingLength.undE7 : EncodingLength.Statement (.undE7) := ⟨rfl, rfl⟩
theorem EncodingLength.undEB : EncodingLength.Statement (.undEB) := ⟨rfl, rfl⟩
theorem EncodingLength.undEF : EncodingLength.Statement (.undEF) := ⟨rfl, rfl⟩
theorem EncodingLength.undF2 : EncodingLength.Statement (.undF2) := ⟨rfl, rfl⟩
theorem EncodingLength.undF3 : EncodingLength.Statement (.undF3) := ⟨rfl, rfl⟩
theorem EncodingLength.undF4 : EncodingLength.Statement (.undF4) := ⟨rfl, rfl⟩
theorem EncodingLength.undF7 : EncodingLength.Statement (.undF7) := ⟨rfl, rfl⟩
theorem EncodingLength.undFA : EncodingLength.Statement (.undFA) := ⟨rfl, rfl⟩
theorem EncodingLength.undFB : EncodingLength.Statement (.undFB) := ⟨rfl, rfl⟩
theorem EncodingLength.undFC : EncodingLength.Statement (.undFC) := ⟨rfl, rfl⟩
theorem EncodingLength.undFF : EncodingLength.Statement (.undFF) := ⟨rfl, rfl⟩

end Sys2Proof.Laws
end

