-- ==== Sys2Proof/Tests/Slice0.lean ====
section
/-! SUPPORT. The model's own tests, each a named theorem about fixed values; their expected results come from the spec: the words
of R84, and the vectors of spec/95_test_vectors.md (on a flat 64 KiB RAM, as that file's conventions say). Also, for every statement
of Obligations.lean that has hypotheses, a concrete state that meets them. -/

namespace Sys2Proof.Tests

open Sys2Proof.Machine Sys2Proof.Config

/-! ### Well-formedness: one ill-formed string of bytes for each check -/

theorem test_wf_refuses_no_bytes : wfBytes [] = false := by decide
theorem test_wf_refuses_missing_operand : wfBytes [0x69] = false := by decide
theorem test_wf_refuses_missing_high_byte : wfBytes [0x6D, 0x34] = false := by decide
theorem test_wf_refuses_trailing_byte : wfBytes [0xEA, 0x00] = false := by decide
theorem test_wf_accepts : (wfBytes [0x69, 0x01] && wfBytes [0x6D, 0x34, 0x12] && wfBytes [0x02]) = true := by decide

/-! ### Decoding: every row of R84 and R86, the words written from R84 -/

/-- Whether each string of bytes is exactly the instruction beside it, for the decoder and for the encoder. -/
def decodesTo (rows : List (List Byte × Instr)) : Bool :=
  rows.all fun r =>
    (match decode r.1 with
      | .ok (i, rest) => i == r.2 && rest.isEmpty
      | .error _ => false) &&
    encode r.2 == r.1

theorem test_decode_adc :
    decodesTo [([0x69, 0x9A], .adcImm 0x9A), ([0x65, 0x9A], .adcZp 0x9A), ([0x75, 0x9A], .adcZpx 0x9A), ([0x6D, 0x34, 0x12], .adcAbs 0x1234), ([0x7D, 0x34, 0x12], .adcAbx 0x1234), ([0x79, 0x34, 0x12], .adcAby 0x1234), ([0x61, 0x9A], .adcIzx 0x9A), ([0x71, 0x9A], .adcIzy 0x9A)] = true := by decide
theorem test_decode_sbc :
    decodesTo [([0xE9, 0x9A], .sbcImm 0x9A), ([0xE5, 0x9A], .sbcZp 0x9A), ([0xF5, 0x9A], .sbcZpx 0x9A), ([0xED, 0x34, 0x12], .sbcAbs 0x1234), ([0xFD, 0x34, 0x12], .sbcAbx 0x1234), ([0xF9, 0x34, 0x12], .sbcAby 0x1234), ([0xE1, 0x9A], .sbcIzx 0x9A), ([0xF1, 0x9A], .sbcIzy 0x9A)] = true := by decide
theorem test_decode_inc :
    decodesTo [([0xE6, 0x9A], .incZp 0x9A), ([0xF6, 0x9A], .incZpx 0x9A), ([0xEE, 0x34, 0x12], .incAbs 0x1234), ([0xFE, 0x34, 0x12], .incAbx 0x1234)] = true := by decide
theorem test_decode_dec :
    decodesTo [([0xC6, 0x9A], .decZp 0x9A), ([0xD6, 0x9A], .decZpx 0x9A), ([0xCE, 0x34, 0x12], .decAbs 0x1234), ([0xDE, 0x34, 0x12], .decAbx 0x1234)] = true := by decide
theorem test_decode_inx :
    decodesTo [([0xE8], .inx)] = true := by decide
theorem test_decode_iny :
    decodesTo [([0xC8], .iny)] = true := by decide
theorem test_decode_dex :
    decodesTo [([0xCA], .dex)] = true := by decide
theorem test_decode_dey :
    decodesTo [([0x88], .dey)] = true := by decide
theorem test_decode_and :
    decodesTo [([0x29, 0x9A], .andImm 0x9A), ([0x25, 0x9A], .andZp 0x9A), ([0x35, 0x9A], .andZpx 0x9A), ([0x2D, 0x34, 0x12], .andAbs 0x1234), ([0x3D, 0x34, 0x12], .andAbx 0x1234), ([0x39, 0x34, 0x12], .andAby 0x1234), ([0x21, 0x9A], .andIzx 0x9A), ([0x31, 0x9A], .andIzy 0x9A)] = true := by decide
theorem test_decode_ora :
    decodesTo [([0x09, 0x9A], .oraImm 0x9A), ([0x05, 0x9A], .oraZp 0x9A), ([0x15, 0x9A], .oraZpx 0x9A), ([0x0D, 0x34, 0x12], .oraAbs 0x1234), ([0x1D, 0x34, 0x12], .oraAbx 0x1234), ([0x19, 0x34, 0x12], .oraAby 0x1234), ([0x01, 0x9A], .oraIzx 0x9A), ([0x11, 0x9A], .oraIzy 0x9A)] = true := by decide
theorem test_decode_eor :
    decodesTo [([0x49, 0x9A], .eorImm 0x9A), ([0x45, 0x9A], .eorZp 0x9A), ([0x55, 0x9A], .eorZpx 0x9A), ([0x4D, 0x34, 0x12], .eorAbs 0x1234), ([0x5D, 0x34, 0x12], .eorAbx 0x1234), ([0x59, 0x34, 0x12], .eorAby 0x1234), ([0x41, 0x9A], .eorIzx 0x9A), ([0x51, 0x9A], .eorIzy 0x9A)] = true := by decide
theorem test_decode_bit :
    decodesTo [([0x24, 0x9A], .bitZp 0x9A), ([0x2C, 0x34, 0x12], .bitAbs 0x1234)] = true := by decide
theorem test_decode_cmp :
    decodesTo [([0xC9, 0x9A], .cmpImm 0x9A), ([0xC5, 0x9A], .cmpZp 0x9A), ([0xD5, 0x9A], .cmpZpx 0x9A), ([0xCD, 0x34, 0x12], .cmpAbs 0x1234), ([0xDD, 0x34, 0x12], .cmpAbx 0x1234), ([0xD9, 0x34, 0x12], .cmpAby 0x1234), ([0xC1, 0x9A], .cmpIzx 0x9A), ([0xD1, 0x9A], .cmpIzy 0x9A)] = true := by decide
theorem test_decode_cpx :
    decodesTo [([0xE0, 0x9A], .cpxImm 0x9A), ([0xE4, 0x9A], .cpxZp 0x9A), ([0xEC, 0x34, 0x12], .cpxAbs 0x1234)] = true := by decide
theorem test_decode_cpy :
    decodesTo [([0xC0, 0x9A], .cpyImm 0x9A), ([0xC4, 0x9A], .cpyZp 0x9A), ([0xCC, 0x34, 0x12], .cpyAbs 0x1234)] = true := by decide
theorem test_decode_asl :
    decodesTo [([0x0A], .aslAcc), ([0x06, 0x9A], .aslZp 0x9A), ([0x16, 0x9A], .aslZpx 0x9A), ([0x0E, 0x34, 0x12], .aslAbs 0x1234), ([0x1E, 0x34, 0x12], .aslAbx 0x1234)] = true := by decide
theorem test_decode_lsr :
    decodesTo [([0x4A], .lsrAcc), ([0x46, 0x9A], .lsrZp 0x9A), ([0x56, 0x9A], .lsrZpx 0x9A), ([0x4E, 0x34, 0x12], .lsrAbs 0x1234), ([0x5E, 0x34, 0x12], .lsrAbx 0x1234)] = true := by decide
theorem test_decode_rol :
    decodesTo [([0x2A], .rolAcc), ([0x26, 0x9A], .rolZp 0x9A), ([0x36, 0x9A], .rolZpx 0x9A), ([0x2E, 0x34, 0x12], .rolAbs 0x1234), ([0x3E, 0x34, 0x12], .rolAbx 0x1234)] = true := by decide
theorem test_decode_ror :
    decodesTo [([0x6A], .rorAcc), ([0x66, 0x9A], .rorZp 0x9A), ([0x76, 0x9A], .rorZpx 0x9A), ([0x6E, 0x34, 0x12], .rorAbs 0x1234), ([0x7E, 0x34, 0x12], .rorAbx 0x1234)] = true := by decide
theorem test_decode_lda :
    decodesTo [([0xA9, 0x9A], .ldaImm 0x9A), ([0xA5, 0x9A], .ldaZp 0x9A), ([0xB5, 0x9A], .ldaZpx 0x9A), ([0xAD, 0x34, 0x12], .ldaAbs 0x1234), ([0xBD, 0x34, 0x12], .ldaAbx 0x1234), ([0xB9, 0x34, 0x12], .ldaAby 0x1234), ([0xA1, 0x9A], .ldaIzx 0x9A), ([0xB1, 0x9A], .ldaIzy 0x9A)] = true := by decide
theorem test_decode_ldx :
    decodesTo [([0xA2, 0x9A], .ldxImm 0x9A), ([0xA6, 0x9A], .ldxZp 0x9A), ([0xB6, 0x9A], .ldxZpy 0x9A), ([0xAE, 0x34, 0x12], .ldxAbs 0x1234), ([0xBE, 0x34, 0x12], .ldxAby 0x1234)] = true := by decide
theorem test_decode_ldy :
    decodesTo [([0xA0, 0x9A], .ldyImm 0x9A), ([0xA4, 0x9A], .ldyZp 0x9A), ([0xB4, 0x9A], .ldyZpx 0x9A), ([0xAC, 0x34, 0x12], .ldyAbs 0x1234), ([0xBC, 0x34, 0x12], .ldyAbx 0x1234)] = true := by decide
theorem test_decode_sta :
    decodesTo [([0x85, 0x9A], .staZp 0x9A), ([0x95, 0x9A], .staZpx 0x9A), ([0x8D, 0x34, 0x12], .staAbs 0x1234), ([0x9D, 0x34, 0x12], .staAbx 0x1234), ([0x99, 0x34, 0x12], .staAby 0x1234), ([0x81, 0x9A], .staIzx 0x9A), ([0x91, 0x9A], .staIzy 0x9A)] = true := by decide
theorem test_decode_stx :
    decodesTo [([0x86, 0x9A], .stxZp 0x9A), ([0x96, 0x9A], .stxZpy 0x9A), ([0x8E, 0x34, 0x12], .stxAbs 0x1234)] = true := by decide
theorem test_decode_sty :
    decodesTo [([0x84, 0x9A], .styZp 0x9A), ([0x94, 0x9A], .styZpx 0x9A), ([0x8C, 0x34, 0x12], .styAbs 0x1234)] = true := by decide
theorem test_decode_tax :
    decodesTo [([0xAA], .tax)] = true := by decide
theorem test_decode_tay :
    decodesTo [([0xA8], .tay)] = true := by decide
theorem test_decode_txa :
    decodesTo [([0x8A], .txa)] = true := by decide
theorem test_decode_tya :
    decodesTo [([0x98], .tya)] = true := by decide
theorem test_decode_tsx :
    decodesTo [([0xBA], .tsx)] = true := by decide
theorem test_decode_txs :
    decodesTo [([0x9A], .txs)] = true := by decide
theorem test_decode_pha :
    decodesTo [([0x48], .pha)] = true := by decide
theorem test_decode_php :
    decodesTo [([0x08], .php)] = true := by decide
theorem test_decode_pla :
    decodesTo [([0x68], .pla)] = true := by decide
theorem test_decode_plp :
    decodesTo [([0x28], .plp)] = true := by decide
theorem test_decode_clc :
    decodesTo [([0x18], .clc)] = true := by decide
theorem test_decode_sec :
    decodesTo [([0x38], .sec)] = true := by decide
theorem test_decode_cli :
    decodesTo [([0x58], .cli)] = true := by decide
theorem test_decode_sei :
    decodesTo [([0x78], .sei)] = true := by decide
theorem test_decode_cld :
    decodesTo [([0xD8], .cld)] = true := by decide
theorem test_decode_sed :
    decodesTo [([0xF8], .sed)] = true := by decide
theorem test_decode_clv :
    decodesTo [([0xB8], .clv)] = true := by decide
theorem test_decode_nop :
    decodesTo [([0xEA], .nop)] = true := by decide
theorem test_decode_jmp :
    decodesTo [([0x4C, 0x34, 0x12], .jmpAbs 0x1234), ([0x6C, 0x34, 0x12], .jmpInd 0x1234)] = true := by decide
theorem test_decode_jsr :
    decodesTo [([0x20, 0x34, 0x12], .jsr 0x1234)] = true := by decide
theorem test_decode_rts :
    decodesTo [([0x60], .rts)] = true := by decide
theorem test_decode_bcc :
    decodesTo [([0x90, 0x9A], .bcc 0x9A)] = true := by decide
theorem test_decode_bcs :
    decodesTo [([0xB0, 0x9A], .bcs 0x9A)] = true := by decide
theorem test_decode_beq :
    decodesTo [([0xF0, 0x9A], .beq 0x9A)] = true := by decide
theorem test_decode_bne :
    decodesTo [([0xD0, 0x9A], .bne 0x9A)] = true := by decide
theorem test_decode_bmi :
    decodesTo [([0x30, 0x9A], .bmi 0x9A)] = true := by decide
theorem test_decode_bpl :
    decodesTo [([0x10, 0x9A], .bpl 0x9A)] = true := by decide
theorem test_decode_bvc :
    decodesTo [([0x50, 0x9A], .bvc 0x9A)] = true := by decide
theorem test_decode_bvs :
    decodesTo [([0x70, 0x9A], .bvs 0x9A)] = true := by decide
theorem test_decode_brk :
    decodesTo [([0x00], .brk)] = true := by decide
theorem test_decode_rti :
    decodesTo [([0x40], .rti)] = true := by decide
theorem test_decode_undefined_0 :
    decodesTo [([0x02], .und02), ([0x03], .und03), ([0x04], .und04), ([0x07], .und07), ([0x0B], .und0B), ([0x0C], .und0C), ([0x0F], .und0F), ([0x12], .und12), ([0x13], .und13), ([0x14], .und14), ([0x17], .und17), ([0x1A], .und1A), ([0x1B], .und1B), ([0x1C], .und1C), ([0x1F], .und1F), ([0x22], .und22), ([0x23], .und23), ([0x27], .und27), ([0x2B], .und2B), ([0x2F], .und2F), ([0x32], .und32), ([0x33], .und33), ([0x34], .und34), ([0x37], .und37), ([0x3A], .und3A), ([0x3B], .und3B), ([0x3C], .und3C), ([0x3F], .und3F), ([0x42], .und42), ([0x43], .und43), ([0x44], .und44), ([0x47], .und47), ([0x4B], .und4B), ([0x4F], .und4F), ([0x52], .und52)] = true := by decide
theorem test_decode_undefined_1 :
    decodesTo [([0x53], .und53), ([0x54], .und54), ([0x57], .und57), ([0x5A], .und5A), ([0x5B], .und5B), ([0x5C], .und5C), ([0x5F], .und5F), ([0x62], .und62), ([0x63], .und63), ([0x64], .und64), ([0x67], .und67), ([0x6B], .und6B), ([0x6F], .und6F), ([0x72], .und72), ([0x73], .und73), ([0x74], .und74), ([0x77], .und77), ([0x7A], .und7A), ([0x7B], .und7B), ([0x7C], .und7C), ([0x7F], .und7F), ([0x80], .und80), ([0x82], .und82), ([0x83], .und83), ([0x87], .und87), ([0x89], .und89), ([0x8B], .und8B), ([0x8F], .und8F), ([0x92], .und92), ([0x93], .und93), ([0x97], .und97), ([0x9B], .und9B), ([0x9C], .und9C), ([0x9E], .und9E), ([0x9F], .und9F)] = true := by decide
theorem test_decode_undefined_2 :
    decodesTo [([0xA3], .undA3), ([0xA7], .undA7), ([0xAB], .undAB), ([0xAF], .undAF), ([0xB2], .undB2), ([0xB3], .undB3), ([0xB7], .undB7), ([0xBB], .undBB), ([0xBF], .undBF), ([0xC2], .undC2), ([0xC3], .undC3), ([0xC7], .undC7), ([0xCB], .undCB), ([0xCF], .undCF), ([0xD2], .undD2), ([0xD3], .undD3), ([0xD4], .undD4), ([0xD7], .undD7), ([0xDA], .undDA), ([0xDB], .undDB), ([0xDC], .undDC), ([0xDF], .undDF), ([0xE2], .undE2), ([0xE3], .undE3), ([0xE7], .undE7), ([0xEB], .undEB), ([0xEF], .undEF), ([0xF2], .undF2), ([0xF3], .undF3), ([0xF4], .undF4), ([0xF7], .undF7), ([0xFA], .undFA), ([0xFB], .undFB), ([0xFC], .undFC), ([0xFF], .undFF)] = true := by decide

theorem test_decode_refuses_no_bytes : (decode [] matches .error .noOpcode) = true := by decide
theorem test_decode_refuses_short : (decode [0x4C, 0x34] matches .error (.missingOperand 0x4C)) = true := by decide
/-- The dispatch table has 16 rows of 16 entries, 151 of them official (R2, R84). -/
theorem test_table_counts :
    dispatchTable.map List.length = List.replicate 16 16 ∧
      (dispatchTable.map fun r => (r.filter Row.official).length).sum = 151 := ⟨rfl, rfl⟩
theorem test_table_word :
    decodeTableWord 8 0x69 = some (.adcImm 0) ∧ decodeTableWord 24 0x12344C = some (.jmpAbs 0x1234) := by decide

/-! ### One step on a small state (spec/95_test_vectors.md) -/

/-- Write cells into a memory. -/
def put (m : Memory) : List (Nat × Byte) → Memory
  | [] => m
  | (a, v) :: rest => put (m.set a v) rest

/-- Bytes at consecutive addresses. -/
def codeCells (a : Nat) : List Byte → List (Nat × Byte)
  | [] => []
  | b :: rest => (a, b) :: codeCells (a + 1) rest

/-- The start state of spec/95_test_vectors.md: flat RAM, PC = 0x0200 with the instruction bytes there, S = 0xFD, flags clear. -/
def start (code : List Byte) (cells : List (Nat × Byte)) : State :=
  { State.reset with
    reg := { State.reset.reg with pc := 0x0200, p := Flags.ofStatusByte 0x00 },
    bus := { Bus.atReset with flat := put (put [] cells) (codeCells 0x0200 code) },
    params := { Params.atReset with bus := .flatRam } }

/-- The same machine with `DECIMAL_MODE`. -/
def decimal (s : State) : State := { s with params := { s.params with decimalMode := true } }

/-- The same state with these flags set, given as their status image. -/
def flags (s : State) (v : Byte) : State := s.setP (Flags.ofStatusByte v)

/-- The state after one step. -/
def run1 (s : State) : State :=
  match step s with
  | .next t => t
  | .fault _ => s
  | .refused _ => s


-- spec/95_test_vectors.md, section 2.1 addressing modes, 2.7 loads and stores
theorem test_lda_zpx_wrap :
    let t := run1 ((start [0xB5, 0xF0] [(0x0010, 0x55), (0x0110, 0xAA)]).setX 0x20)
    (t.reg.a, t.reg.pc, t.cycles) = (0x55, 0x0202, 4) := by decide
theorem test_lda_abx_wraps_to_page_0 :
    let t := run1 ((start [0xBD, 0xFF, 0xFF] [(0x0001, 0x0A)]).setX 0x02)
    (t.reg.a, t.reg.pc, t.cycles) = (0x0A, 0x0203, 5) := by decide
theorem test_lda_izx_pointer_wrap :
    let t := run1 ((start [0xA1, 0xFE] [(0x00FF, 0x34), (0x0000, 0x12), (0x0100, 0x99), (0x1234, 0x0C)]).setX 0x01)
    (t.reg.a, t.cycles) = (0x0C, 6) := by decide
theorem test_lda_izy_pointer_wrap_and_cross :
    let t := run1 ((start [0xB1, 0xFF] [(0x00FF, 0xFF), (0x0000, 0x12), (0x0100, 0x99), (0x1300, 0x0E)]).setY 0x01)
    (t.reg.a, t.reg.pc, t.cycles) = (0x0E, 0x0202, 6) := by decide
theorem test_ldx_zpy_wrap :
    let t := run1 ((start [0xB6, 0xF0] [(0x0010, 0x66), (0x0110, 0xAA)]).setY 0x20)
    (t.reg.x, t.cycles) = (0x66, 4) := by decide
theorem test_ldx_imm_negative :
    let t := run1 (start [0xA2, 0x80] [])
    (t.reg.x, t.reg.p) = (0x80, Flags.ofStatusByte 0x80) := by decide
theorem test_ldy_imm_zero :
    let t := run1 ((start [0xA0, 0x00] []).setY 0x05)
    (t.reg.y, t.reg.p) = (0x00, Flags.ofStatusByte 0x02) := by decide
theorem test_ldy_abx :
    let t := run1 ((start [0xBC, 0x34, 0x12] [(0x1235, 0x7E)]).setX 0x01)
    (t.reg.y, t.cycles, t.reg.p) = (0x7E, 4, Flags.ofStatusByte 0x00) := by decide
theorem test_sta_abx_no_penalty :
    let t := run1 (((start [0x9D, 0xFF, 0x12] []).setA 0x42).setX 0x01)
    (t.peek 0x1300, t.reg.pc, t.cycles) = (0x42, 0x0203, 5) := by decide
theorem test_sta_izy :
    let t := run1 (((start [0x91, 0x10] [(0x0010, 0x01), (0x0011, 0x20)]).setA 0x43).setY 0xFF)
    (t.peek 0x2100, t.cycles) = (0x43, 6) := by decide
theorem test_stx_zpy_wrap :
    let t := run1 (((start [0x96, 0xFF] []).setX 0x45).setY 0x01)
    (t.peek 0x0000, t.peek 0x0100, t.cycles) = (0x45, 0x00, 4) := by decide
theorem test_sty_zpx :
    let t := run1 (((start [0x94, 0x10] []).setY 0x46).setX 0x01)
    (t.peek 0x0011, t.cycles) = (0x46, 4) := by decide
theorem test_tax_zero :
    let t := run1 ((start [0xAA] []).setX 0x09)
    (t.reg.x, t.cycles, t.reg.p) = (0x00, 2, Flags.ofStatusByte 0x02) := by decide
theorem test_tay :
    let t := run1 ((start [0xA8] []).setA 0x80)
    (t.reg.y, t.reg.p) = (0x80, Flags.ofStatusByte 0x80) := by decide
theorem test_txa_clears_n :
    let t := run1 ((flags (start [0x8A] []) 0x80).setX 0x7F)
    (t.reg.a, t.reg.p) = (0x7F, Flags.ofStatusByte 0x00) := by decide
theorem test_tya :
    let t := run1 ((start [0x98] []).setY 0xFF)
    (t.reg.a, t.reg.p) = (0xFF, Flags.ofStatusByte 0x80) := by decide
theorem test_tsx :
    let t := run1 (start [0xBA] [])
    (t.reg.x, t.reg.p) = (0xFD, Flags.ofStatusByte 0x80) := by decide
theorem test_txs_writes_no_flag :
    let t := run1 (flags (start [0x9A] []) 0x80)
    (t.reg.s, t.reg.pc, t.reg.p) = (0x00, 0x0201, Flags.ofStatusByte 0x80) := by decide

-- spec/95_test_vectors.md, section 2.2 arithmetic
theorem test_adc_overflow :
    let t := run1 ((start [0x69, 0x01] []).setA 0x7F)
    (t.reg.a, t.reg.pc, t.cycles, t.reg.p) = (0x80, 0x0202, 2, Flags.ofStatusByte 0xC0) := by decide
theorem test_adc_carry_and_zero :
    let t := run1 ((start [0x69, 0x01] []).setA 0xFF)
    (t.reg.a, t.reg.p) = (0x00, Flags.ofStatusByte 0x03) := by decide
theorem test_adc_decimal_off :
    let t := run1 ((flags (start [0x69, 0x01] []) 0x08).setA 0x09)
    (t.reg.a, t.reg.p) = (0x0A, Flags.ofStatusByte 0x08) := by decide
theorem test_adc_decimal_carry :
    let t := run1 ((flags (decimal (start [0x69, 0x01] [])) 0x08).setA 0x99)
    (t.reg.a, t.reg.p) = (0x00, Flags.ofStatusByte 0x89) := by decide
theorem test_adc_decimal_all_flags :
    let t := run1 ((flags (decimal (start [0x69, 0x46] [])) 0x09).setA 0x58)
    (t.reg.a, t.reg.p) = (0x05, Flags.ofStatusByte 0xC9) := by decide
theorem test_adc_decimal_high_digit :
    let t := run1 ((flags (decimal (start [0x69, 0x10] [])) 0x08).setA 0x79)
    (t.reg.a, t.reg.p) = (0x89, Flags.ofStatusByte 0xC8) := by decide
theorem test_sbc_borrow :
    let t := run1 (flags (start [0xE9, 0x01] []) 0x01)
    (t.reg.a, t.reg.p) = (0xFF, Flags.ofStatusByte 0x80) := by decide
theorem test_sbc_overflow :
    let t := run1 ((flags (start [0xE9, 0xB0] []) 0x01).setA 0x50)
    (t.reg.a, t.reg.p) = (0xA0, Flags.ofStatusByte 0xC0) := by decide
theorem test_sbc_decimal :
    let t := run1 ((flags (decimal (start [0xE9, 0x13] [])) 0x09).setA 0x40)
    (t.reg.a, t.reg.p) = (0x27, Flags.ofStatusByte 0x09) := by decide
theorem test_sbc_decimal_borrow :
    let t := run1 ((flags (decimal (start [0xE9, 0x21] [])) 0x09).setA 0x12)
    (t.reg.a, t.reg.p) = (0x91, Flags.ofStatusByte 0x88) := by decide

-- spec/95_test_vectors.md, section 2.3 increment and decrement
theorem test_inc_wraps_and_keeps_c :
    let t := run1 (flags (start [0xE6, 0x10] [(0x0010, 0xFF)]) 0x01)
    (t.peek 0x0010, t.reg.p, t.cycles) = (0x00, Flags.ofStatusByte 0x03, 5) := by decide
theorem test_inc_abx_no_penalty :
    let t := run1 ((start [0xFE, 0xFF, 0x12] [(0x1300, 0x41)]).setX 0x01)
    (t.peek 0x1300, t.reg.p, t.reg.pc, t.cycles) = (0x42, Flags.ofStatusByte 0x00, 0x0203, 7) := by decide
theorem test_dec_wraps :
    let t := run1 (flags (start [0xC6, 0x10] [(0x0010, 0x00)]) 0x01)
    (t.peek 0x0010, t.reg.p) = (0xFF, Flags.ofStatusByte 0x81) := by decide
theorem test_dec_to_zero :
    let t := run1 (start [0xC6, 0x10] [(0x0010, 0x01)])
    (t.peek 0x0010, t.reg.p) = (0x00, Flags.ofStatusByte 0x02) := by decide
theorem test_inx :
    let t := run1 ((flags (start [0xE8] []) 0x01).setX 0xFF)
    (t.reg.x, t.reg.pc, t.cycles, t.reg.p) = (0x00, 0x0201, 2, Flags.ofStatusByte 0x03) := by decide
theorem test_iny :
    let t := run1 ((start [0xC8] []).setY 0x7F)
    (t.reg.y, t.reg.p) = (0x80, Flags.ofStatusByte 0x80) := by decide
theorem test_dex :
    let t := run1 (start [0xCA] [])
    (t.reg.x, t.reg.p) = (0xFF, Flags.ofStatusByte 0x80) := by decide
theorem test_dey :
    let t := run1 ((flags (start [0x88] []) 0x01).setY 0x01)
    (t.reg.y, t.reg.p) = (0x00, Flags.ofStatusByte 0x03) := by decide

-- spec/95_test_vectors.md, section 2.4 logical
theorem test_and_keeps_c_and_v :
    let t := run1 ((flags (start [0x29, 0x0F] []) 0x41).setA 0xF0)
    (t.reg.a, t.reg.p) = (0x00, Flags.ofStatusByte 0x43) := by decide
theorem test_ora :
    let t := run1 ((start [0x09, 0x80] []).setA 0x01)
    (t.reg.a, t.reg.p) = (0x81, Flags.ofStatusByte 0x80) := by decide
theorem test_eor :
    let t := run1 ((flags (start [0x49, 0xFF] []) 0x01).setA 0x0F)
    (t.reg.a, t.reg.p) = (0xF0, Flags.ofStatusByte 0x81) := by decide
theorem test_bit_from_memory :
    let t := run1 ((start [0x24, 0x10] [(0x0010, 0xC0)]).setA 0x01)
    (t.reg.a, t.cycles, t.reg.p) = (0x01, 3, Flags.ofStatusByte 0xC2) := by decide
theorem test_bit_clears_v :
    let t := run1 ((flags (start [0x2C, 0x34, 0x12] [(0x1234, 0x80)]) 0x40).setA 0x80)
    (t.reg.pc, t.cycles, t.reg.p) = (0x0203, 4, Flags.ofStatusByte 0x80) := by decide

-- spec/95_test_vectors.md, section 2.5 compare
theorem test_cmp_keeps_v :
    let t := run1 ((flags (start [0xC9, 0x10] []) 0x40).setA 0x20)
    (t.reg.a, t.reg.p) = (0x20, Flags.ofStatusByte 0x41) := by decide
theorem test_cmp_borrow_without_n :
    let t := run1 (start [0xC9, 0xFF] [])
    (t.reg.a, t.reg.p) = (0x00, Flags.ofStatusByte 0x00) := by decide
theorem test_cpx :
    let t := run1 ((start [0xE4, 0x10] [(0x0010, 0x80)]).setX 0x7F)
    (t.reg.x, t.cycles, t.reg.p) = (0x7F, 3, Flags.ofStatusByte 0x80) := by decide
theorem test_cpy :
    let t := run1 ((start [0xCC, 0x34, 0x12] [(0x1234, 0xFE)]).setY 0xFF)
    (t.reg.pc, t.reg.p) = (0x0203, Flags.ofStatusByte 0x01) := by decide

-- spec/95_test_vectors.md, section 2.6 shifts and rotates
theorem test_asl_acc :
    let t := run1 ((flags (start [0x0A] []) 0x01).setA 0x40)
    (t.reg.a, t.reg.p) = (0x80, Flags.ofStatusByte 0x80) := by decide
theorem test_asl_zp :
    let t := run1 (start [0x06, 0x10] [(0x0010, 0x55)])
    (t.peek 0x0010, t.reg.p, t.cycles) = (0xAA, Flags.ofStatusByte 0x80, 5) := by decide
theorem test_lsr_acc_clears_n :
    let t := run1 ((flags (start [0x4A] []) 0x80).setA 0x01)
    (t.reg.a, t.reg.p) = (0x00, Flags.ofStatusByte 0x03) := by decide
theorem test_lsr_zpx :
    let t := run1 ((start [0x56, 0x10] [(0x0011, 0x03)]).setX 0x01)
    (t.peek 0x0011, t.reg.p, t.cycles) = (0x01, Flags.ofStatusByte 0x01, 6) := by decide
theorem test_rol_acc :
    let t := run1 ((flags (start [0x2A] []) 0x01).setA 0x80)
    (t.reg.a, t.reg.p) = (0x01, Flags.ofStatusByte 0x01) := by decide
theorem test_rol_abs :
    let t := run1 (flags (start [0x2E, 0x34, 0x12] [(0x1234, 0x7F)]) 0x01)
    (t.peek 0x1234, t.reg.p, t.cycles) = (0xFF, Flags.ofStatusByte 0x80, 6) := by decide
theorem test_ror_acc :
    let t := run1 ((flags (start [0x6A] []) 0x01).setA 0x01)
    (t.reg.a, t.reg.p) = (0x80, Flags.ofStatusByte 0x81) := by decide
theorem test_ror_abx :
    let t := run1 ((start [0x7E, 0xF0, 0x10] [(0x1100, 0x02)]).setX 0x10)
    (t.peek 0x1100, t.reg.p, t.cycles) = (0x01, Flags.ofStatusByte 0x00, 7) := by decide

-- spec/95_test_vectors.md, section 2.8 stack and flag instructions
theorem test_pha_wrap :
    let t := run1 (((start [0x48] []).setA 0x43).setS 0x00)
    (t.peek 0x0100, t.reg.s, t.cycles) = (0x43, 0xFF, 3) := by decide
theorem test_php_image :
    let t := run1 (flags (start [0x08] []) 0x81)
    (t.peek 0x01FD, t.reg.s, t.reg.p) = (0xB1, 0xFC, Flags.ofStatusByte 0x81) := by decide
theorem test_php_all :
    let t := run1 (flags (start [0x08] []) 0xCF)
    (t.peek 0x01FD) = (0xFF) := by decide
theorem test_pla_wrap :
    let t := run1 ((start [0x68] [(0x0100, 0x7F)]).setS 0xFF)
    (t.reg.a, t.reg.s, t.cycles, t.reg.p) = (0x7F, 0x00, 4, Flags.ofStatusByte 0x00) := by decide
theorem test_pla_zero :
    let t := run1 ((start [0x68] [(0x01FE, 0x00)]).setA 0x05)
    (t.reg.a, t.reg.s, t.reg.p) = (0x00, 0xFE, Flags.ofStatusByte 0x02) := by decide
theorem test_plp_all :
    let t := run1 (start [0x28] [(0x01FE, 0xFF)])
    (t.reg.s, t.cycles, t.reg.p) = (0xFE, 4, Flags.ofStatusByte 0xCF) := by decide
theorem test_plp_ignores_bits_5_4 :
    let t := run1 (flags (start [0x28] [(0x01FE, 0x30)]) 0xCF)
    (t.reg.s, t.reg.p) = (0xFE, Flags.ofStatusByte 0x00) := by decide
theorem test_clc :
    let t := run1 (flags (start [0x18] []) 0x01)
    (t.reg.pc, t.cycles, t.reg.p) = (0x0201, 2, Flags.ofStatusByte 0x00) := by decide
theorem test_sec :
    let t := run1 (start [0x38] [])
    (t.reg.pc, t.cycles, t.reg.p) = (0x0201, 2, Flags.ofStatusByte 0x01) := by decide
theorem test_cli :
    let t := run1 (flags (start [0x58] []) 0x04)
    (t.reg.pc, t.cycles, t.reg.p) = (0x0201, 2, Flags.ofStatusByte 0x00) := by decide
theorem test_sei :
    let t := run1 (start [0x78] [])
    (t.reg.pc, t.cycles, t.reg.p) = (0x0201, 2, Flags.ofStatusByte 0x04) := by decide
theorem test_cld :
    let t := run1 (flags (start [0xD8] []) 0x08)
    (t.reg.pc, t.cycles, t.reg.p) = (0x0201, 2, Flags.ofStatusByte 0x00) := by decide
theorem test_sed :
    let t := run1 (start [0xF8] [])
    (t.reg.pc, t.cycles, t.reg.p) = (0x0201, 2, Flags.ofStatusByte 0x08) := by decide
theorem test_clv :
    let t := run1 (flags (start [0xB8] []) 0x40)
    (t.reg.pc, t.cycles, t.reg.p) = (0x0201, 2, Flags.ofStatusByte 0x00) := by decide
theorem test_nop :
    let t := run1 (flags (start [0xEA] []) 0x81)
    (t.reg.pc, t.cycles, t.reg.p) = (0x0201, 2, Flags.ofStatusByte 0x81) := by decide

-- spec/95_test_vectors.md, section 2.9 control flow
theorem test_jmp_abs :
    let t := run1 (start [0x4C, 0x34, 0x12] [])
    (t.reg.pc, t.cycles) = (0x1234, 3) := by decide
theorem test_jmp_ind_page_wrap :
    let t := run1 (start [0x6C, 0xFF, 0x30] [(0x30FF, 0x40), (0x3000, 0x80), (0x3100, 0x55)])
    (t.reg.pc, t.cycles) = (0x8040, 5) := by decide
theorem test_jsr :
    let t := run1 (start [0x20, 0x34, 0x12] [])
    (t.peek 0x01FD, t.peek 0x01FC, t.reg.s, t.reg.pc, t.cycles) = (0x02, 0x02, 0xFB, 0x1234, 6) := by decide
theorem test_jsr_stack_wrap :
    let t := run1 ((start [0x20, 0x34, 0x12] []).setS 0x00)
    (t.peek 0x0100, t.peek 0x01FF, t.reg.s) = (0x02, 0x02, 0xFE) := by decide
theorem test_rts_wraps :
    let t := run1 (start [0x60] [(0x01FE, 0xFF), (0x01FF, 0xFF)])
    (t.reg.pc, t.reg.s, t.cycles) = (0x0000, 0xFF, 6) := by decide
theorem test_rts :
    let t := run1 (start [0x60] [(0x01FE, 0x02), (0x01FF, 0x02)])
    (t.reg.pc, t.reg.s) = (0x0203, 0xFF) := by decide
theorem test_bne_not_taken :
    let t := run1 (flags (start [0xD0, 0x05] []) 0x02)
    (t.reg.pc, t.cycles) = (0x0202, 2) := by decide
theorem test_bne_taken :
    let t := run1 (start [0xD0, 0x05] [])
    (t.reg.pc, t.cycles) = (0x0207, 3) := by decide
theorem test_beq_to_itself :
    let t := run1 (flags (start [0xF0, 0xFE] []) 0x02)
    (t.reg.pc, t.cycles) = (0x0200, 3) := by decide
theorem test_bcc_page_back :
    let t := run1 (start [0x90, 0xFD] [])
    (t.reg.pc, t.cycles) = (0x01FF, 4) := by decide
theorem test_bcs :
    let t := run1 (flags (start [0xB0, 0x7F] []) 0x01)
    (t.reg.pc, t.cycles) = (0x0281, 3) := by decide
theorem test_bmi_minus_128 :
    let t := run1 (flags (start [0x30, 0x80] []) 0x80)
    (t.reg.pc, t.cycles) = (0x0182, 4) := by decide
theorem test_bpl_zero_offset :
    let t := run1 (start [0x10, 0x00] [])
    (t.reg.pc, t.cycles) = (0x0202, 3) := by decide
theorem test_bvc_not_taken :
    let t := run1 (flags (start [0x50, 0x10] []) 0x40)
    (t.reg.pc, t.cycles) = (0x0202, 2) := by decide
theorem test_bvs :
    let t := run1 (flags (start [0x70, 0x10] []) 0x40)
    (t.reg.pc, t.cycles) = (0x0212, 3) := by decide

-- spec/95_test_vectors.md, section 2.10 system
theorem test_brk :
    let t := run1 ((flags (start [0x00] [(0xFFFE, 0x00), (0xFFFF, 0x80)]) 0x89).setS 0x01)
    (t.peek 0x0101, t.peek 0x0100, t.peek 0x01FF, t.reg.s, t.reg.pc, t.reg.p, t.cycles) = (0x02, 0x02, 0xB9, 0xFE, 0x8000, Flags.ofStatusByte 0x8D, 7) := by decide
theorem test_rti :
    let t := run1 ((flags (start [0x40] [(0x01FB, 0xB3), (0x01FC, 0x02), (0x01FD, 0x10)]) 0x04).setS 0xFA)
    (t.reg.pc, t.reg.s, t.cycles, t.reg.p) = (0x1002, 0xFD, 6, Flags.ofStatusByte 0x83) := by decide
theorem test_undefined :
    let t := run1 (flags (start [0x02] []) 0x81)
    (t.reg.pc, t.reg.p, t.cycles, t.diag) =
      (0x0201, Flags.ofStatusByte 0x81, 2, [.undefinedOpcode 0x0200 0x02]) := by decide
theorem test_brk_diag : (run1 (start [0x00] [])).diag = [.brk 0x0200] := by decide

/-! ### Interrupts and reset (spec/95_test_vectors.md section 3) -/

theorem test_nmi_i1 :
    let t := run1 (flags (start [0xEA] [(0xFFFA, 0x00), (0xFFFB, 0x80)]) 0x01).assertNmi
    ((t.peek 0x01FD, t.peek 0x01FC, t.peek 0x01FB, t.reg.s), t.reg.p, t.reg.pc, t.intc.nmiPending, t.cycles) =
      ((0x02, 0x00, 0x21, 0xFA), Flags.ofStatusByte 0x05, 0x8000, false, 7) := by decide
theorem test_irq_i2 :
    let t := run1 ((start [0xEA] [(0xFFFE, 0x00), (0xFFFF, 0x90)]).setIrqLine true)
    ((t.peek 0x01FD, t.peek 0x01FC, t.peek 0x01FB, t.reg.s), t.reg.p, t.reg.pc, t.intc.irqLine, t.cycles) =
      ((0x02, 0x00, 0x20, 0xFA), Flags.ofStatusByte 0x04, 0x9000, true, 7) := by decide
theorem test_nmi_before_irq_i3 :
    (run1 ((start [] [(0xFFFA, 0x00), (0xFFFB, 0x80)]).setIrqLine true).assertNmi).reg.pc = 0x8000 := by decide
theorem test_irq_masked_i4 : (run1 (flags ((start [0xEA] []).setIrqLine true) 0x04)).reg.pc = 0x0201 := by decide
theorem test_cli_has_no_delay_i5 :
    let t := run1 (run1 (flags ((start [0x58, 0xEA] [(0xFFFF, 0x90)]).setIrqLine true) 0x04))
    (t.reg.pc, t.peek 0x01FC) = (0x9000, 0x01) := by decide
theorem test_reset_i7 :
    let t := ((((flags (start [] [(0xFFFD, 0xE0)]) 0xC3).setA 0x11).setS 0x44).setIrqLine true).assertNmi.cpuReset
    (t.reg.a, t.reg.s, t.reg.p, t.reg.pc, t.intc.nmiPending, t.intc.irqLine) =
      (0x00, 0xFD, Flags.ofStatusByte 0x04, 0xE000, false, true) := by decide

/-! ### Bus and mapper (spec/95_test_vectors.md section 4) -/

/-- The ROM bytes of section 4: byte 0 of PRG bank b holds 0xB0 + b, byte 0 of CHR unit u holds 0xC0 + u. -/
def marked (size base : Nat) : Nat → List (Nat × Byte)
  | 0 => []
  | n + 1 => (n * size, BitVec.ofNat 8 (base + n)) :: marked size base n

/-- The set-up of section 4 with the given variant and counts. -/
def mapped (k : MapperKind) (banks units : Nat) : State :=
  { State.reset with
    bus := { Bus.atReset with
      prg := put [] (marked 8192 0xB0 banks), chr := put [] (marked 1024 0xC0 units), mapper := Mapper.initial k },
    params := { Params.atReset with prgBanks := banks, chrUnits := units } }

/-- The bytes at the start of the four PRG windows. -/
def prgWindows (s : State) : List Byte := [s.peek 0x8000, s.peek 0xA000, s.peek 0xC000, s.peek 0xE000]

/-- The bytes at the start of the eight CHR windows. -/
def chrWindows (s : State) : List Byte :=
  [s.vread 0x0000, s.vread 0x0400, s.vread 0x0800, s.vread 0x0C00, s.vread 0x1000, s.vread 0x1400, s.vread 0x1800,
    s.vread 0x1C00]

theorem test_ram_mirror_b1 :
    let t := (mapped .fixed 4 8).write8 0x0801 0x77
    (t.peek 0x0001, t.peek 0x1001, t.peek 0x1801, t.peek 0x5000) = (0x77, 0x77, 0x77, 0x00) := by decide
theorem test_fixed_windows_b2 :
    [prgWindows (mapped .fixed 1 8), prgWindows (mapped .fixed 2 8), prgWindows (mapped .fixed 8 8)] =
      [[0xB0, 0xB0, 0xB0, 0xB0], [0xB0, 0xB1, 0xB0, 0xB1], [0xB4, 0xB5, 0xB6, 0xB7]] := by decide
theorem test_scanline_prg_b3 :
    let t := ((((mapped .scanlineIrq 8 8).write8 0x8000 6).write8 0x8001 0x0B).write8 0x8000 7).write8 0x8001 5
    [prgWindows (mapped .scanlineIrq 8 8), prgWindows t, prgWindows (t.write8 0x8000 0x46)] =
      [[0xB0, 0xB1, 0xB6, 0xB7], [0xB3, 0xB5, 0xB6, 0xB7], [0xB6, 0xB5, 0xB3, 0xB7]] := by decide
theorem test_scanline_chr_b4 :
    let t := ((mapped .scanlineIrq 8 16).write8 0x8000 0).write8 0x8001 0x05
    [chrWindows t, chrWindows (t.write8 0x8000 0x80)] =
      [[0xC4, 0xC5, 0xC2, 0xC3, 0xC4, 0xC5, 0xC6, 0xC7], [0xC4, 0xC5, 0xC6, 0xC7, 0xC4, 0xC5, 0xC2, 0xC3]] := by decide
theorem test_scanline_irq_s3 :
    let s := (((mapped .scanlineIrq 4 8).write8 0xC000 4).write8 0xC001 0).write8 0xE001 0
    let e := State.notifyScanlineEdge
    ((e (e (e s))).intc.irqLine, (e (e (e (e s)))).intc.irqLine, ((e (e (e (e s)))).write8 0xE000 0).intc.irqLine) =
      (false, true, false) := by decide
theorem test_irq_or_b6 :
    let s := ((((mapped .scanlineIrq 4 8).write8 0xC000 1).write8 0xC001 0).write8 0xE001 0).setExtIrq true
    let t := s.notifyScanlineEdge.write8 0xE000 0
    (t.bus.irqSrcMapper, t.intc.irqLine, (t.setExtIrq false).intc.irqLine) = (false, true, false) := by decide
theorem test_chrLatch_b7 :
    let s := ((mapped .chrLatch 8 32).write8 0xA000 0x0A).write8 0xB000 2
    let t := s.write8 0xC000 5
    (prgWindows t, t.vread 0x0000, (t.notifyChrRead 0x0FD8).vread 0x0000, (t.notifyChrRead 0x4FD8).vread 0x0000,
      (t.notifyChrRead 0x0FD9).vread 0x0000) =
      ([0xB2, 0xB5, 0xB6, 0xB7], 0xD4, 0xC8, 0xC8, 0xD4) := by decide
theorem test_mirroring_b8 :
    let s := (mapped .scanlineIrq 4 8).vwrite 0x2400 0xAB
    let t := s.write8 0xA000 1
    (s.vread 0x2C00, s.vread 0x2000, t.vread 0x2C00, t.vread 0x2800, t.vread 0x3C00, t.vread 0x2400) =
      (0xAB, 0x00, 0xAB, 0xAB, 0xAB, 0x00) := by decide
theorem test_clamp_b9 :
    (bankCount 24676 8192, bankCount 40960 8192, bankCount 5000 1024, clampEvents true 24676 16384) =
      (2, 4, 4, [.romClamped true 24676 16384]) := by decide
theorem test_mapper_write_leaves_prg_b10 :
    ((mapped .scanlineIrq 4 8).write8 0x8000 0x55).peek 0x8000 = 0xB2 := by decide
theorem test_device_effects :
    let t := (mapped .scanlineIrq 4 8).applyEffects [.setExtIrq true, .ntWrite 0x2000 0x12, .chrWrite 0x0000 0x34]
    (t.intc.irqLine, t.vread 0x2000, t.vread 0x0000) = (true, 0x12, 0x34) := by decide
theorem test_withFetchWord_runs :
    (run1 (State.reset.withFetchWord 16 0x05A9)).reg.a = 0x05 := by decide


/-! ### Witnesses: concrete states and operands that meet the hypotheses of the statements -/

/-- A work state in `start`'s memory with A, X, Y and the flags set. -/
def busy (code : List Byte) (cells : List (Nat × Byte)) : State :=
  (((flags (start code cells) 0xC3).setA 0x58).setX 0xF1).setY 0x0F

/-- The same with `DECIMAL_MODE` and D set. -/
def tens : State := flags (decimal (busy [] [])) 0x09

theorem witness_DecodeOfEncode : (Instr.adcAbs 0x1234).wf = true ∧ Instr.undFF.wf = true := by decide
theorem witness_StepRunsTheDecodedInstruction :
    (start [0x6D, 0x34, 0x12] []).noInterrupt = true ∧
      (start [0x6D, 0x34, 0x12] []).holdsCode (start [0x6D, 0x34, 0x12] []).reg.pc [0x6D, 0x34, 0x12] = true ∧
      decode [0x6D, 0x34, 0x12] = .ok (.adcAbs 0x1234, []) ∧ (Instr.adcAbs 0x1234).wf = true :=
  ⟨by decide, by decide, rfl, rfl⟩
/-- The same on the reference bus, at the last bytes of ROM and on into RAM (R54). -/
theorem witness_StepRunsTheDecodedInstruction_wraps :
    let s := (mapped .scanlineIrq 4 8).setPc 0xFFFF
    s.noInterrupt = true ∧ s.holdsCode s.reg.pc [0x00] = true ∧ decode [0x00] = .ok (.brk, []) := ⟨by decide, by decide, rfl⟩
theorem witness_CyclesAreTheTablesCounts : ∃ t, exec (.adcIzy 0xFF) (busy [] []) = .next t := ⟨_, rfl⟩
theorem witness_InterruptServiceEntersTheHandler_nmi :
    ((start [] []).setS 0x01).assertNmi.wf = true ∧ ((start [] []).setS 0x01).assertNmi.intc.nmiPending = true := by decide
theorem witness_InterruptServiceEntersTheHandler_irq :
    let s := (mapped .scanlineIrq 4 8).setExtIrq true
    let t := (flags s 0x00).setS 0x00
    t.wf = true ∧ t.intc.nmiPending = false ∧ t.intc.irqLine = true ∧ t.reg.p.i = false := by decide
theorem witness_InterruptPriority_both :
    let s := ((start [] []).setIrqLine true).assertNmi
    s.intc.nmiPending = true ∧ s.intc.irqLine = true := by decide
theorem witness_InterruptPriority_masked :
    let s := flags ((start [0xEA] []).setIrqLine true) 0x04
    s.intc.nmiPending = false ∧ s.reg.p.i = true := by decide
theorem witness_ReturnUndoesAnInterrupt :
    (start [] []).assertNmi.wf = true ∧ (start [] []).assertNmi.noInterrupt = false ∧
      ∃ t, step (start [] []).assertNmi = .next t := ⟨by decide, by decide, _, rfl⟩
theorem witness_BrkTakesTheInterruptEntry : ((busy [] []).setPc 0x0000).wf = true := by decide
theorem witness_UndefinedOpcodesDoNothing :
    (0x02, .und02) ∈ undefinedForms ∧ (0x80, .und80) ∈ undefinedForms ∧ (0xFF, .undFF) ∈ undefinedForms := by decide
/-- Load arguments with images of these many bytes. -/
def images (prg chr : Nat) : LoadArgs :=
  { LoadArgs.atReset with
    prg := List.replicate prg 0x00, chr := List.replicate chr 0xFF, ramInit := [0x5A], wramInit := [0x5B], vramInit := [0x5C] }

theorem images_length (prg chr : Nat) : (images prg chr).prg.length = prg ∧ (images prg chr).chr.length = chr :=
  ⟨List.length_replicate, List.length_replicate⟩

theorem witness_LoadClampsAndInitialises_noPrgBank : (images 8191 1024).prg.length < 8192 := by
  rw [(images_length 8191 1024).1]; decide
theorem witness_LoadClampsAndInitialises_noChrUnit : 8192 ≤ (images 8192 1023).prg.length ∧ (images 8192 1023).chr.length < 1024 := by
  rw [(images_length 8192 1023).1, (images_length 8192 1023).2]; decide
theorem witness_LoadClampsAndInitialises_whole : 8192 ≤ (images 8192 1024).prg.length ∧ 1024 ≤ (images 8192 1024).chr.length := by
  rw [(images_length 8192 1024).1, (images_length 8192 1024).2]; decide
theorem witness_LoadClampsAndInitialises_memories :
    0 < (images 8192 1024).ramInit.length ∧ 0 < (images 8192 1024).wramInit.length ∧ 0 < (images 8192 1024).vramInit.length := by
  decide
theorem witness_PointerModesStayOnOnePage :
    (start [] []).isDevice (wordOf 0x30 0xFF) = false ∧ (start [] []).isDevice (wordOf 0x30 (0xFF + 1)) = false ∧
      State.reset.isDevice (wordOf 0x1F 0xFF) = false ∧ State.reset.isDevice (wordOf 0x1F (0xFF + 1)) = false := by decide
theorem witness_AdcIsTheExactSum :
    (⟨[0x71, 0x10], .adcIzy 0x10, .izy 0x10, 5, true⟩ : Form) ∈ adcForms 0x10 0x34 0x12 ∧
      ((busy [] []).reg.p.d && (busy [] []).params.decimalMode) = false := by decide
/-- D set without `DECIMAL_MODE` is binary too. -/
theorem witness_AdcIsTheExactSum_d :
    ((flags (start [] []) 0x08).reg.p.d && (flags (start [] []) 0x08).params.decimalMode) = false := by decide
theorem witness_SbcIsTheExactDifference :
    (⟨[0xFD, 0x34, 0x12], .sbcAbx 0x1234, .abx 0x1234, 4, true⟩ : Form) ∈ sbcForms 0x10 0x34 0x12 ∧
      ((busy [] []).reg.p.d && (busy [] []).params.decimalMode) = false := by decide
theorem witness_AdcDecimalCorrectsDigits :
    let f : Form := ⟨[0x69, 0x46], .adcImm 0x46, .imm 0x46, 2, false⟩
    f ∈ adcForms 0x46 0x34 0x12 ∧ tens.reg.p.d = true ∧ tens.params.decimalMode = true ∧
      21 = (if 10 ≤ tens.reg.a.toNat % 16 + (f.operandRead tens).1.toNat % 16 + tens.reg.p.c.toNat
        then (tens.reg.a.toNat % 16 + (f.operandRead tens).1.toNat % 16 + tens.reg.p.c.toNat + 6) % 16 + 16
        else tens.reg.a.toNat % 16 + (f.operandRead tens).1.toNat % 16 + tens.reg.p.c.toNat) ∧
      165 = tens.reg.a.toNat / 16 * 16 + (f.operandRead tens).1.toNat / 16 * 16 + 21 ∧
      165 = (tens.reg.a &&& 0xF0).toInt + ((f.operandRead tens).1 &&& 0xF0).toInt + ((21 : Nat) : Int) := by decide
theorem witness_SbcDecimalCorrectsDigits :
    let f : Form := ⟨[0xE9, 0x69], .sbcImm 0x69, .imm 0x69, 2, false⟩
    f ∈ sbcForms 0x69 0x34 0x12 ∧ tens.reg.p.d = true ∧ tens.params.decimalMode = true ∧
      (-7 : Int) = (if ((tens.reg.a.toNat % 16 : Nat) : Int) - ((f.operandRead tens).1.toNat % 16 : Nat) + tens.reg.p.c.toNat - 1 < 0
        then (((tens.reg.a.toNat % 16 : Nat) : Int) - ((f.operandRead tens).1.toNat % 16 : Nat) + tens.reg.p.c.toNat - 1 - 6)
          % 16 - 16
        else ((tens.reg.a.toNat % 16 : Nat) : Int) - ((f.operandRead tens).1.toNat % 16 : Nat) + tens.reg.p.c.toNat - 1) ∧
      (-23 : Int) = ((tens.reg.a.toNat / 16 * 16 : Nat) : Int) - ((f.operandRead tens).1.toNat / 16 * 16 : Nat) + -7 := by decide
theorem witness_DecimalModeCountsInTens :
    tens.reg.p.d = true ∧ tens.params.decimalMode = true ∧ tens.reg.a.toNat % 16 < 10 ∧ tens.reg.a.toNat / 16 < 10 ∧
      (0x99 : Byte).toNat % 16 < 10 ∧ (0x99 : Byte).toNat / 16 < 10 := by decide
theorem witness_ComparesWriteCarryZeroNegative_cmp :
    (⟨[0xC9, 0x58], .cmpImm 0x58, .imm 0x58, 2, false⟩ : Form) ∈ cmpForms 0x58 0x34 0x12 ∧ (0x58 : Byte) = (busy [] []).reg.a := by
  decide
theorem witness_ComparesWriteCarryZeroNegative_cpx :
    (⟨[0xE4, 0x10], .cpxZp 0x10, .zp 0x10, 3, false⟩ : Form) ∈ cpxForms 0x10 0x34 0x12 ∧ (0xF1 : Byte) = (busy [] []).reg.x := by
  decide
theorem witness_ComparesWriteCarryZeroNegative_cpy :
    (⟨[0xCC, 0x34, 0x12], .cpyAbs 0x1234, .abs 0x1234, 4, false⟩ : Form) ∈ cpyForms 0x10 0x34 0x12 ∧
      (0x0F : Byte) = (busy [] []).reg.y := by decide
theorem witness_IncDecMemoryWrapAndKeepCarry :
    let s := busy [] [(0x0001, 0xFF)]
    (⟨[0xF6, 0x10], .incZpx 0x10, .zpx 0x10, 6, false⟩ : Form) ∈ incForms 0x10 0x34 0x12 ∧
      (⟨[0xD6, 0x10], .decZpx 0x10, .zpx 0x10, 6, false⟩ : Form) ∈ decForms 0x10 0x34 0x12 ∧
      0x0001 = (resolve (.zpx 0x10) s).ea ∧ (0xFF, s) = (resolve (.zpx 0x10) s).state.read8 0x0001 :=
  ⟨by decide, by decide, by decide, rfl⟩
theorem witness_RegisterIncrementsAndTransfers :
    ∀ v, (busy [] []).reg.p.setZN v = { (busy [] []).reg.p with z := v == 0, n := decide (128 ≤ v.toNat) } := by decide
theorem witness_LogicalResultsAndFlags :
    let s := busy [] []
    ((⟨[0x29, 0x0F], .andImm 0x0F, .imm 0x0F, 2, false⟩ : Form) ∈ andForms 0x0F 0x34 0x12 ∧ 0x08 = s.reg.a &&& 0x0F) ∧
      ((⟨[0x09, 0x80], .oraImm 0x80, .imm 0x80, 2, false⟩ : Form) ∈ oraForms 0x80 0x34 0x12 ∧ 0xD8 = s.reg.a ||| 0x80) ∧
      (⟨[0x49, 0x58], .eorImm 0x58, .imm 0x58, 2, false⟩ : Form) ∈ eorForms 0x58 0x34 0x12 ∧ 0x00 = s.reg.a ^^^ 0x58 := by
  decide
theorem witness_BitTestsMemoryAgainstA : (⟨[0x2C, 0x34, 0x12], .bitAbs 0x1234, .abs 0x1234, 4, false⟩ : Form) ∈ bitForms 0x10 0x34 0x12 := by decide
theorem witness_ShiftsMoveOneBitThroughCarry_memory :
    let s := busy [] [(0x1325, 0x81)]
    (⟨[0x1E, 0x34, 0x12], .aslAbx 0x1234, .abx 0x1234, 7, false⟩ : Form) ∈ aslForms 0x10 0x34 0x12 ∧
      (⟨[0x5E, 0x34, 0x12], .lsrAbx 0x1234, .abx 0x1234, 7, false⟩ : Form) ∈ lsrForms 0x10 0x34 0x12 ∧
      (⟨[0x3E, 0x34, 0x12], .rolAbx 0x1234, .abx 0x1234, 7, false⟩ : Form) ∈ rolForms 0x10 0x34 0x12 ∧
      (⟨[0x7E, 0x34, 0x12], .rorAbx 0x1234, .abx 0x1234, 7, false⟩ : Form) ∈ rorForms 0x10 0x34 0x12 ∧
      0x1325 = (resolve (.abx 0x1234) s).ea ∧ (0x81, s) = (resolve (.abx 0x1234) s).state.read8 0x1325 :=
  ⟨by decide, by decide, by decide, by decide, by decide, rfl⟩
theorem witness_ShiftsMoveOneBitThroughCarry_accumulator :
    ((0x2A : Byte), Instr.rolAcc) ∈ [((0x0A : Byte), Instr.aslAcc), (0x4A, .lsrAcc), (0x2A, .rolAcc), (0x6A, .rorAcc)] := by decide
theorem witness_LoadsWriteOneRegister :
    let s := busy [] [(0x1243, 0x80)]
    let f : Form := ⟨[0xB9, 0x34, 0x12], .ldaAby 0x1234, .aby 0x1234, 4, true⟩
    f ∈ ldaForms 0x10 0x34 0x12 ∧ 0x80 = (f.operandRead s).1 ∧
      (⟨[0xBE, 0x34, 0x12], .ldxAby 0x1234, .aby 0x1234, 4, true⟩ : Form) ∈ ldxForms 0x10 0x34 0x12 ∧
      (⟨[0xBC, 0x34, 0x12], .ldyAbx 0x1234, .abx 0x1234, 4, true⟩ : Form) ∈ ldyForms 0x10 0x34 0x12 := by decide
theorem witness_StoresWriteTheRegister :
    (⟨[0x91, 0x10], .staIzy 0x10, .izy 0x10, 6, false⟩ : Form) ∈ staForms 0x10 0x34 0x12 ∧
      (⟨[0x96, 0x10], .stxZpy 0x10, .zpy 0x10, 4, false⟩ : Form) ∈ stxForms 0x10 0x34 0x12 ∧
      (⟨[0x94, 0x10], .styZpx 0x10, .zpx 0x10, 4, false⟩ : Form) ∈ styForms 0x10 0x34 0x12 := by decide
theorem witness_ReadInstructionsStoreNothing :
    let f : Form := ⟨[0x61, 0xFE], .adcIzx 0xFE, .izx 0xFE, 6, false⟩
    f ∈ readForms 0xFE 0x34 0x12 ∧ (busy [] []).isDevice (resolve f.operand (busy [] [])).ea = false := by decide
theorem witness_StoreInstructionsStoreOneByte :
    (⟨[0x81, 0xFE], .staIzx 0xFE, .izx 0xFE, 6, false⟩ : Form) ∈ storeForms 0xFE 0x34 0x12 ++ modifyForms 0xFE 0x34 0x12 ∧
      (⟨[0xCE, 0x34, 0x12], .decAbs 0x1234, .abs 0x1234, 6, false⟩ : Form) ∈
        storeForms 0xFE 0x34 0x12 ++ modifyForms 0xFE 0x34 0x12 := by decide
/-- A mirror of the stored byte, the next byte, and the first byte after RAM's mirrors of it. -/
theorem witness_LoadSeesTheStore :
    let s := mapped .fixed 4 8
    s.wf = true ∧ s.isWritable 0x07FF = true ∧ s.isDevice 0x1FFF = false ∧ s.sameCell 0x07FF 0x1FFF = true ∧
      s.isDevice 0x0800 = false ∧ s.sameCell 0x07FF 0x0800 = false ∧ s.isWritable 0x6000 = true ∧ s.isWritable 0x8000 = false := by
  decide
theorem witness_StatusImagePlacesTheFlags : (⟨true, false, true, true, false, false⟩ : Flags) = Flags.ofStatusByte 0xBC := by decide
theorem witness_PushesStoreAtS : ((busy [] []).setS 0x00).wf = true ∧ ((mapped .chrLatch 4 8).setS 0x00).wf = true := by decide
theorem witness_PullsReadAboveS : (0x77 : Byte) = ((start [] [(0x0100, 0x77)]).setS 0xFF).peek (stackAddr 0x00) := by decide
theorem witness_PullUndoesPush :
    ((busy [] []).setS 0x00).wf = true ∧ Instr.clc ∈ [Instr.clc, .sec, .cli, .sei, .cld, .sed, .clv] := by decide
theorem witness_JumpsAndSubroutinesSetPc : ((busy [] []).setS 0x00).wf = true := by decide
theorem witness_ReturnUndoesACall : ((busy [] []).setS 0xFF).wf = true := by decide
theorem witness_BranchesMovePcWhenTaken_taken :
    (⟨0xF0, .beq 0x80, true⟩ : BranchForm) ∈ branchForms 0x80 (busy [] []).reg.p := by decide
theorem witness_BranchesMovePcWhenTaken_notTaken :
    (⟨0xD0, .bne 0x7F, false⟩ : BranchForm) ∈ branchForms 0x7F (busy [] []).reg.p := by decide
theorem witness_StepKeepsTheInvariant :
    (busy [0x91, 0x10] []).wf = true ∧ ∃ t, step (busy [0x91, 0x10] []) = .next t := ⟨by decide, _, rfl⟩
theorem witness_EventsKeepTheInvariant :
    (mapped .scanlineIrq 4 8).wf = true ∧
      ∃ t, State.runEvents [.call (.setExtIrq true), .call .assertNmi, .step, .call .notifyScanlineEdge]
        (mapped .scanlineIrq 4 8) = some t := ⟨by decide, _, rfl⟩
theorem witness_RomAndParametersNeverChange :
    let s := { mapped .chrLatch 4 8 with params := { (mapped .chrLatch 4 8).params with chrWritable := false } }
    s.params.chrWritable = false ∧
      ∃ t, State.runEvents [.call (.chrWrite 0x0000 0x55), .call (.notifyChrRead 0x0FD8), .call .reset] s = some t :=
  ⟨by decide, _, rfl⟩
theorem witness_VectorWindowIsFixed :
    let s := mapped .scanlineIrq 4 8
    s.wf = true ∧ s.params.bus = .reference ∧ 0xE000 ≤ (0xE000 : Word).toNat ∧ 0xE000 ≤ (0xFFFF : Word).toNat ∧
      ∃ t, State.runEvents [.step, .call .assertNmi, .step] s = some t := ⟨by decide, rfl, by decide, by decide, _, rfl⟩
theorem witness_OutputsAreNotRead :
    let s := busy [0x02] []
    let u := { s with cycles := 5, diag := [.brk 0x1234] }
    s.sameMachine u ∧ (∃ s', step s = .next s') ∧ (∃ u', step u = .next u') ∧ s.params.bus = .flatRam :=
  ⟨⟨rfl, rfl, rfl, rfl⟩, ⟨_, rfl⟩, ⟨_, rfl⟩, rfl⟩
/-- On the reference bus: the byte 0x00 at 0x0000 is BRK, which reaches no device register. -/
theorem witness_OutputsAreNotRead_reference :
    let s := mapped .fixed 4 8
    let u := { s with cycles := 5, diag := [.brk 0x1234] }
    s.sameMachine u ∧ s.params.bus = .reference ∧ (∃ u', step u = .next u') ∧
      ∃ s', step s = .next s' ∧ s'.bus.deviceTick = s.bus.deviceTick :=
  ⟨⟨rfl, rfl, rfl, rfl⟩, rfl, ⟨_, rfl⟩, ⟨_, rfl, rfl⟩⟩
/-- Machines that differ in the sink only, at code that reads a device register. -/
theorem witness_OutputsAreNotRead_sink :
    let s : State := (mapped .fixed 4 8).withFetchWord 24 0x2002AD
    let u := { s with diag := [.brk 0x1234] }
    s.sameMachine u ∧ u.cycles = s.cycles ∧ (∃ s', step s = .next s') ∧ ∃ u', step u = .next u' :=
  ⟨⟨rfl, rfl, rfl, rfl⟩, rfl, ⟨_, rfl⟩, ⟨_, rfl⟩⟩
/-- Each row of R245 at both its ends; the rows do not overlap. -/
theorem witness_BusDecodesEveryAddress :
    (mapped .fixed 4 8).params.bus = .reference ∧ (0x1FFF : Word).toNat < 0x2000 ∧
      (0x2000 ≤ (0x3FFF : Word).toNat ∧ (0x3FFF : Word).toNat < 0x4000 ∧ (7 : BitVec 5).toNat = (0x3FFF : Word).toNat % 8) ∧
      (0x4000 ≤ (0x401F : Word).toNat ∧ (0x401F : Word).toNat < 0x4020 ∧ (31 : BitVec 5).toNat = (0x401F : Word).toNat - 0x4000) ∧
      (0x4020 ≤ (0x5FFF : Word).toNat ∧ (0x5FFF : Word).toNat < 0x6000) ∧
      (0x6000 ≤ (0x7FFF : Word).toNat ∧ (0x7FFF : Word).toNat < 0x8000 ∧ (mapped .fixed 4 8).params.wramPresent = true) ∧
      0x8000 ≤ (0x8000 : Word).toNat := by decide
theorem witness_BusDecodesEveryAddress_noWram :
    0x4020 ≤ (0x6000 : Word).toNat ∧ (0x6000 : Word).toNat < 0x8000 ∧
      { (mapped .fixed 4 8).params with wramPresent := false }.wramPresent = false := by decide
theorem witness_BusDecodesEveryAddress_fixed :
    (mapped .fixed 4 8).bus.mapper = .fixed ∧ 0x8000 ≤ (0xFFFF : Word).toNat := by decide
theorem witness_PrgWindowsShowTheSelectedBanks :
    let s := mapped .scanlineIrq 4 8
    s.wf = true ∧ s.params.bus = .reference ∧ 3 < 4 ∧ 0x8000 + 3 * 0x2000 ≤ (0xFFFF : Word).toNat ∧
      (0xFFFF : Word).toNat < 0x8000 + (3 + 1) * 0x2000 ∧ (4 : Int) = s.params.prgBanks ∧
      ([0, 1, 2, 3] : List Int) = (match s.bus.mapper with
        | .fixed => []
        | .scanlineIrq m =>
          if m.bankSelect.getLsbD 6 then []
          else [(m.bankReg[6].toNat : Int), (m.bankReg[7].toNat : Int), 4 - 2, 4 - 1]
        | .chrLatch _ => []) := by decide
theorem witness_ChrWindowsShowTheSelectedUnits :
    (mapped .chrLatch 4 8).wf = true ∧ 7 < 8 ∧ 7 * 0x400 ≤ (0x5FFF : Word).toNat % 0x4000 ∧
      (0x5FFF : Word).toNat % 0x4000 < (7 + 1) * 0x400 ∧
      [0, 1, 2, 3, 0, 1, 2, 3] = (match (mapped .chrLatch 4 8).bus.mapper with
        | .fixed => []
        | .scanlineIrq _ => []
        | .chrLatch m =>
          let low := (if m.latch0 = .fd then m.chrFd0 else m.chrFe0).toNat
          let high := (if m.latch1 = .fd then m.chrFd1 else m.chrFe1).toNat
          [low * 4, low * 4 + 1, low * 4 + 2, low * 4 + 3, high * 4, high * 4 + 1, high * 4 + 2, high * 4 + 3]) := by decide
theorem witness_NametablesAreMirrored_palette : 0x3F00 ≤ (0x3F00 : Word).toNat % 0x4000 := by decide
theorem witness_NametablesAreMirrored_memory :
    (mapped .fixed 4 8).wf = true ∧ (mapped .fixed 4 8).bus.mirroring = .vertical ∧ 0x2000 ≤ (0x3EFF : Word).toNat % 0x4000 ∧ (0x3EFF : Word).toNat % 0x4000 < 0x3F00 ∧
      [0, 1, 0, 1][(0x3EFF : Word).toNat / 1024 % 4]? = some 1 ∧ 0x2000 ≤ (0x2000 : Word).toNat % 0x4000 ∧
      (0x2000 : Word).toNat % 0x4000 < 0x3F00 ∧ [0, 1, 0, 1][(0x2000 : Word).toNat / 1024 % 4]? = some 0 := by decide
theorem witness_ScanlineRegistersTakeWrites :
    let s := mapped .scanlineIrq 4 8
    s.params.bus = .reference ∧ s.bus.mapper = Mapper.initial .scanlineIrq ∧ 0x8000 ≤ (0x9FFF : Word).toNat ∧
      false = decide ((0x9FFF : Word).toNat % 2 = 0) ∧ true = decide ((0xE000 : Word).toNat % 2 = 0) := by decide
theorem witness_ChrLatchRegistersAndLatchFlips :
    let s := mapped .chrLatch 4 8
    s.bus.mapper = Mapper.initial .chrLatch ∧ s.params.bus = .reference ∧ 0x8000 ≤ (0xFFFF : Word).toNat ∧
      0x8000 ≤ (0x8000 : Word).toNat := by decide
theorem witness_ChrLatchRegistersAndLatchFlips_others :
    (mapped .fixed 4 8).bus.mapper.kind ≠ .chrLatch ∧ (mapped .scanlineIrq 4 8).bus.mapper.kind ≠ .chrLatch := by decide
theorem witness_ScanlineCounterRaisesTheIrq :
    let m : ScanlineIrq := ⟨0, #v[0, 2, 4, 5, 6, 7, 0, 1], 0, 1, true⟩
    let s := (mapped .scanlineIrq 4 8).setMapper (.scanlineIrq m)
    s.bus.mapper = .scanlineIrq m ∧ 0 < m.irqCounter.toNat ∧ 1 = m.irqCounter.toNat ∧ m.irqEnable = true ∧
      { m with irqEnable := false }.irqEnable = false ∧ { m with irqCounter := 0 }.irqCounter = 0 := by decide
theorem witness_ScanlineCounterRaisesTheIrq_others :
    (mapped .fixed 4 8).bus.mapper.kind ≠ .scanlineIrq ∧ (mapped .chrLatch 4 8).bus.mapper.kind ≠ .scanlineIrq := by decide
theorem witness_IrqSourcesAreOred : (mapped .fixed 4 8).params.bus = .reference := rfl
theorem witness_InterruptCallsSetTheFlags : (start [] []).params.bus = .flatRam := rfl
theorem witness_SnapshotRoundTrip :
    let s := mapped .chrLatch 4 8
    let u := (s.write8 0x0000 0x55).setPc 0x1234
    s.wf = true ∧ u.params = s.params ∧ u.bus.prg = s.bus.prg ∧ u.bus.mapper.kind = s.bus.mapper.kind ∧
      s.params.chrWritable = true ∧ (mapped .fixed 4 8).snapshot.mapper.kind ≠ u.bus.mapper.kind := by decide
theorem witness_FixedMapperNeverChanges :
    (mapped .fixed 4 8).bus.mapper = .fixed ∧ ∃ t, step (mapped .fixed 4 8) = .next t := ⟨rfl, _, rfl⟩


end Sys2Proof.Tests
end

section
/-! What every step keeps. `AccessClosed` names the relations, from the state before to the state after, that hold of every
update of registers and outputs, of one read and of one write of the memory trait, and along sequences of these; such a relation
holds of every instruction and of every `step` (`AccessClosed.step`). An invariant of the machine is then four small goals. -/

namespace Sys2Proof.Machine

open Sys2Proof.Config

/-- The bus, the IRQ line and the parameters are as before: only registers, the NMI latch and the outputs may differ. -/
structure KeepsBus (s t : State) : Prop where
  bus : t.bus = s.bus
  irqLine : t.intc.irqLine = s.intc.irqLine
  params : t.params = s.params

/-- A relation that every register update and every single memory access respects, and that sequences of them respect. -/
structure AccessClosed (R : State → State → Prop) : Prop where
  trans : ∀ {s t u : State}, R s t → R t u → R s u
  ofKeepsBus : ∀ {s t : State}, KeepsBus s t → R s t
  read8 : ∀ (s : State) (a : Word), R s (s.read8 a).2
  write8 : ∀ (s : State) (a : Word) (v : Byte), R s (s.write8 a v)

/-- `R` holds from `s` to the next state of an outcome, where there is one. -/
def LeadsTo (R : State → State → Prop) (s : State) (o : Host.Outcome State Fault Refusal) : Prop :=
  ∀ t, o = .next t → R s t

theorem leadsTo_next {R : State → State → Prop} {s t : State} (h : R s t) : LeadsTo R s (.next t) := by
  rintro _ ⟨⟩
  exact h

namespace AccessClosed

variable {R : State → State → Prop}

theorem refl (h : AccessClosed R) (s : State) : R s s := h.ofKeepsBus ⟨rfl, rfl, rfl⟩

/-- A register update after something that `R` holds of. -/
theorem update (h : AccessClosed R) {s t u : State} (hst : R s t) (htu : KeepsBus t u) : R s u :=
  h.trans hst (h.ofKeepsBus htu)

/-! ### The memory trait, the stack, the interrupt entry and the return -/

theorem read16 (h : AccessClosed R) (s : State) (a : Word) : R s (s.read16 a).2 :=
  h.trans (h.read8 s a) (h.read8 _ _)

theorem push (h : AccessClosed R) (s : State) (v : Byte) : R s (s.push v) :=
  h.update (h.write8 s _ v) ⟨rfl, rfl, rfl⟩

theorem pushWord (h : AccessClosed R) (s : State) (w : Word) : R s (s.pushWord w) :=
  h.trans (h.push s _) (h.push _ _)

theorem pull (h : AccessClosed R) (s : State) : R s s.pull.2 :=
  h.trans (h.ofKeepsBus (t := s.setS (s.reg.s + 1)) ⟨rfl, rfl, rfl⟩) (h.read8 _ _)

theorem pullWord (h : AccessClosed R) (s : State) : R s s.pullWord.2 :=
  h.trans (h.pull s) (h.pull _)

theorem interrupt (h : AccessClosed R) (s : State) (vector : Word) (b : Bool) (r : Word) :
    R s (s.interrupt vector b r) := by
  let pushed := (s.pushWord r).push ((s.pushWord r).reg.p.statusByte b)
  have entered : R s (pushed.setP { pushed.reg.p with i := true }) :=
    h.update (h.trans (h.pushWord s r) (h.push _ _)) ⟨rfl, rfl, rfl⟩
  exact h.update (h.trans entered (h.read16 _ vector)) ⟨rfl, rfl, rfl⟩

theorem returnFromInterrupt (h : AccessClosed R) (s : State) : R s s.returnFromInterrupt := by
  have flagsPulled : R s (s.pull.2.setP (Flags.ofStatusByte s.pull.1)) := h.update (h.pull s) ⟨rfl, rfl, rfl⟩
  exact h.update (h.trans flagsPulled (h.pullWord _)) ⟨rfl, rfl, rfl⟩

theorem serviceNmi (h : AccessClosed R) (s : State) : R s s.serviceNmi := by
  have taken : R s { s with intc := { s.intc with nmiPending := false } } := h.ofKeepsBus ⟨rfl, rfl, rfl⟩
  exact h.update (h.trans taken (h.interrupt _ nmiVector false s.reg.pc)) ⟨rfl, rfl, rfl⟩

theorem serviceIrq (h : AccessClosed R) (s : State) : R s s.serviceIrq :=
  h.update (h.interrupt s irqVector false s.reg.pc) ⟨rfl, rfl, rfl⟩

theorem cpuReset (h : AccessClosed R) (s : State) : R s s.cpuReset := by
  have cleared :
      R s
        { s with
          reg := { a := 0x00, x := 0x00, y := 0x00, s := 0xFD, pc := s.reg.pc, p := Flags.atReset },
          intc := { s.intc with nmiPending := false } } := h.ofKeepsBus ⟨rfl, rfl, rfl⟩
  exact h.update (h.trans cleared (h.read16 _ resetVector)) ⟨rfl, rfl, rfl⟩

/-! ### The fetch and the resolver -/

theorem fetch (h : AccessClosed R) (s : State) : R s s.fetch.2 :=
  h.update (h.read8 s s.reg.pc) ⟨rfl, rfl, rfl⟩

/-- R81: one, two or three fetches. -/
theorem fetchInstr (h : AccessClosed R) (s : State) : R s s.fetchInstr.2 := by
  have opcode : R s s.fetch.2 := h.fetch s
  have operand : R s s.fetch.2.fetch.2 := h.trans opcode (h.fetch _)
  unfold State.fetchInstr
  dsimp only
  split
  · exact opcode
  · exact operand
  · exact h.trans operand (h.fetch _)

/-- R110 to R112: the three modes with a pointer read its two bytes, the others read nothing. -/
theorem resolve (h : AccessClosed R) (o : Operand) (s : State) : R s (resolve o s).state := by
  cases o with
  | ind _ | izx _ | izy _ => exact h.trans (h.read8 s _) (h.read8 _ _)
  | _ => exact h.refl s

theorem fetchOperand (h : AccessClosed R) (o : Operand) (r : Resolved) : R r.state (r.fetchOperand o).2 := by
  cases o with
  | imm _ => exact h.refl _
  | _ => exact h.read8 _ _

/-! ### The shapes (R115) -/

theorem readInstr (h : AccessClosed R) (c : Nat) (p : Bool) (o : Operand) {op : Byte → State → State} (s : State)
    (hop : ∀ m u, KeepsBus u (op m u)) : LeadsTo R s (readInstr c p o op s) := by
  rw [readInstr_eq]
  have fetched := h.trans (h.resolve o s) (h.fetchOperand o _)
  exact leadsTo_next (h.update (h.update fetched (hop _ _)) ⟨rfl, rfl, rfl⟩)

theorem storeInstr (h : AccessClosed R) (c : Nat) (o : Operand) (v : Byte) (s : State) :
    LeadsTo R s (storeInstr c o v s) := by
  rw [storeInstr_eq]
  exact leadsTo_next (h.update (h.trans (h.resolve o s) (h.write8 _ _ v)) ⟨rfl, rfl, rfl⟩)

theorem rmwInstr (h : AccessClosed R) (c : Nat) (o : Operand) {op : Byte → State → Byte × State} (s : State)
    (hop : ∀ m u, KeepsBus u (op m u).2) : LeadsTo R s (rmwInstr c o op s) := by
  rw [rmwInstr_eq]
  let r := Machine.resolve o s
  let m := r.state.read8 r.ea
  have operated : R s (op m.1 m.2).2 := h.update (h.trans (h.resolve o s) (h.read8 _ _)) (hop _ _)
  exact leadsTo_next (h.update (h.trans operated (h.write8 _ _ _)) ⟨rfl, rfl, rfl⟩)

theorem accInstr (h : AccessClosed R) (c : Nat) {op : Byte → State → Byte × State} (s : State)
    (hop : ∀ m u, KeepsBus u (op m u).2) : LeadsTo R s (accInstr c op s) := by
  rw [accInstr_eq]
  exact leadsTo_next (h.update (h.ofKeepsBus (hop _ s)) ⟨rfl, rfl, rfl⟩)

theorem impliedInstr (h : AccessClosed R) (c : Nat) {op : State → State} (s : State)
    (hop : ∀ u, R u (op u)) : LeadsTo R s (impliedInstr c op s) := by
  rw [impliedInstr_eq]
  exact leadsTo_next (h.update (hop s) ⟨rfl, rfl, rfl⟩)

theorem branchInstr (h : AccessClosed R) (cond : Flags → Bool) (b : Byte) (s : State) :
    LeadsTo R s (branchInstr cond b s) := by
  cases hc : cond s.reg.p with
  | true => rw [branchInstr_taken cond b s hc]; exact leadsTo_next (h.ofKeepsBus ⟨rfl, rfl, rfl⟩)
  | false => rw [branchInstr_notTaken cond b s hc]; exact leadsTo_next (h.ofKeepsBus ⟨rfl, rfl, rfl⟩)

theorem jumpTo (h : AccessClosed R) (c : Nat) (o : Operand) (s : State) : LeadsTo R s (jumpTo c o s) :=
  leadsTo_next (h.update (h.resolve o s) ⟨rfl, rfl, rfl⟩)

/-! ### Instructions and steps -/

/-- Every instruction, by the shape of its meaning: reads, read-modify-writes, stores, register instructions, the stack, control
flow, and in the last case the undefined opcodes. -/
theorem exec (h : AccessClosed R) (i : Instr) (s : State) : LeadsTo R s (exec i s) := by
  cases i with
  | adcImm | adcZp | adcZpx | adcAbs | adcAbx | adcAby | adcIzx | adcIzy
  | sbcImm | sbcZp | sbcZpx | sbcAbs | sbcAbx | sbcAby | sbcIzx | sbcIzy
  | andImm | andZp | andZpx | andAbs | andAbx | andAby | andIzx | andIzy
  | oraImm | oraZp | oraZpx | oraAbs | oraAbx | oraAby | oraIzx | oraIzy
  | eorImm | eorZp | eorZpx | eorAbs | eorAbx | eorAby | eorIzx | eorIzy
  | bitZp | bitAbs
  | cmpImm | cmpZp | cmpZpx | cmpAbs | cmpAbx | cmpAby | cmpIzx | cmpIzy
  | cpxImm | cpxZp | cpxAbs | cpyImm | cpyZp | cpyAbs
  | ldaImm | ldaZp | ldaZpx | ldaAbs | ldaAbx | ldaAby | ldaIzx | ldaIzy
  | ldxImm | ldxZp | ldxZpy | ldxAbs | ldxAby | ldyImm | ldyZp | ldyZpx | ldyAbs | ldyAbx =>
    exact h.readInstr _ _ _ s fun _ _ => ⟨rfl, rfl, rfl⟩
  | incZp | incZpx | incAbs | incAbx | decZp | decZpx | decAbs | decAbx
  | aslZp | aslZpx | aslAbs | aslAbx | lsrZp | lsrZpx | lsrAbs | lsrAbx
  | rolZp | rolZpx | rolAbs | rolAbx | rorZp | rorZpx | rorAbs | rorAbx =>
    exact h.rmwInstr _ _ s fun _ _ => ⟨rfl, rfl, rfl⟩
  | aslAcc | lsrAcc | rolAcc | rorAcc => exact h.accInstr _ s fun _ _ => ⟨rfl, rfl, rfl⟩
  | staZp | staZpx | staAbs | staAbx | staAby | staIzx | staIzy
  | stxZp | stxZpy | stxAbs | styZp | styZpx | styAbs => exact h.storeInstr _ _ _ s
  | inx | iny | dex | dey | tax | tay | txa | tya | tsx | txs
  | clc | sec | cli | sei | cld | sed | clv | nop =>
    exact leadsTo_next (h.ofKeepsBus ⟨rfl, rfl, rfl⟩)
  | pha | php => exact h.impliedInstr _ s fun u => h.push u _
  | pla | plp => exact h.impliedInstr _ s fun u => h.update (h.pull u) ⟨rfl, rfl, rfl⟩
  | jmpAbs | jmpInd => exact h.jumpTo _ _ s
  | jsr => exact leadsTo_next (h.update (h.pushWord s _) ⟨rfl, rfl, rfl⟩)
  | rts => exact h.impliedInstr _ s fun u => h.update (h.pullWord u) ⟨rfl, rfl, rfl⟩
  | bcs | beq | bmi | bvs => exact h.branchInstr _ _ s
  | bcc => exact h.branchInstr (fun p => !p.c) _ s
  | bne => exact h.branchInstr (fun p => !p.z) _ s
  | bpl => exact h.branchInstr (fun p => !p.n) _ s
  | bvc => exact h.branchInstr (fun p => !p.v) _ s
  | brk => exact h.impliedInstr _ s fun u => h.update (h.interrupt u _ _ _) ⟨rfl, rfl, rfl⟩
  | rti => exact h.impliedInstr _ s h.returnFromInterrupt
  | _ => exact leadsTo_next (h.ofKeepsBus ⟨rfl, rfl, rfl⟩)

/-- R290: every step, along each of its three branches. -/
theorem step (h : AccessClosed R) (s : State) : LeadsTo R s (step s) := by
  unfold Machine.step
  split
  · exact leadsTo_next (h.serviceNmi s)
  · split
    · exact leadsTo_next (h.serviceIrq s)
    · intro t ht
      exact h.trans (h.fetchInstr s) (h.exec _ _ t ht)

/-- R345: one event, given that the host calls respect the relation too. -/
theorem event (h : AccessClosed R) (hcall : ∀ c s t, s.hostCall c = some t → R s t) (e : Event) (s t : State)
    (he : s.event e = some t) : R s t := by
  cases e with
  | step =>
    unfold State.event at he
    dsimp only at he
    split at he
    · rename_i hstep
      cases he
      exact h.step s _ hstep
    · cases he
    · cases he
  | call c => exact hcall c s t he

/-- R345: every run, by induction on its events. -/
theorem runEvents (h : AccessClosed R) (hcall : ∀ c s t, s.hostCall c = some t → R s t) (es : List Event) (s t : State)
    (hrun : State.runEvents es s = some t) : R s t := by
  induction es generalizing s with
  | nil =>
    cases hrun
    exact h.refl _
  | cons e rest ih =>
    obtain ⟨u, he, hrest⟩ := Option.bind_eq_some_iff.1 hrun
    exact h.trans (h.event hcall e s u he) (ih u hrest)

end AccessClosed

end Sys2Proof.Machine
end

section
/-! The invariant `State.wf`: it holds after reset and every step keeps it. -/

namespace Sys2Proof.Machine

/-- Register updates, reads and writes keep the invariant. -/
theorem wf_accessClosed : AccessClosed fun s t => s.wf = true → t.wf = true where
  trans hst htu hs := htu (hst hs)
  ofKeepsBus k hs := (State.wf_congr k.bus k.irqLine k.params).trans hs
  read8 s a := s.read8_wf a
  write8 s a v := s.write8_wf a v

/-- Settles O44: the invariant is one of the relations that every step respects. -/
theorem stepKeepsTheInvariant : Obligations.StepKeepsTheInvariant :=
  fun s t hs hstep => wf_accessClosed.step s t hstep hs

/-- Settles O45: at reset no memory lists a cell, the counts are 1 and 8, and the IRQ line is clear as its sources are. -/
theorem resetHasTheInvariant : Obligations.ResetHasTheInvariant := by
  obtain ⟨ram, wram, vram, flat, prg, chr⟩ := reset_memories_wf
  exact (State.wf_iff State.reset).2 ⟨ram, wram, vram, flat, prg, chr, by decide, by decide, irqAgrees_or _ false false⟩

end Sys2Proof.Machine
end

section
/-! What stays as it was loaded (R35, R65, R242, R259): the parameters, PRG, the mapper's variant, and CHR where it is not
writable. -/

namespace Sys2Proof.Machine

open Sys2Proof.Config

/-- What was fixed at load time is as before. -/
structure KeepsLoaded (s t : State) : Prop where
  params : t.params = s.params
  prg : t.bus.prg = s.bus.prg
  kind : t.bus.mapper.kind = s.bus.mapper.kind
  chr : s.params.chrWritable = false → t.bus.chr = s.bus.chr

theorem KeepsLoaded.refl (s : State) : KeepsLoaded s s := ⟨rfl, rfl, rfl, fun _ => rfl⟩

theorem KeepsLoaded.trans {s t u : State} (h : KeepsLoaded s t) (g : KeepsLoaded t u) : KeepsLoaded s u :=
  ⟨g.params.trans h.params, g.prg.trans h.prg, g.kind.trans h.kind,
    fun hw => (g.chr (by rw [h.params]; exact hw)).trans (h.chr hw)⟩

/-- R259: where CHR is not writable the video side's write call leaves it. -/
theorem State.vwrite_chr (s : State) (a : Word) (v : Byte) (hw : s.params.chrWritable = false) :
    (s.vwrite a v).bus.chr = s.bus.chr := by
  unfold State.vwrite
  split
  · rw [if_neg (by simp [hw])]
  · rfl
  · rfl

theorem State.notifyScanlineEdge_chr (s : State) : s.notifyScanlineEdge.bus.chr = s.bus.chr := by
  unfold State.notifyScanlineEdge
  dsimp only
  repeat' split
  all_goals rfl

theorem State.notifyChrRead_chr (s : State) (a : Word) : (s.notifyChrRead a).bus.chr = s.bus.chr := by
  unfold State.notifyChrRead
  split <;> rfl

theorem State.applyEffect_keepsLoaded (e : DeviceEffect) (s : State) : KeepsLoaded s (s.applyEffect e) := by
  refine ⟨(s.applyEffect_keepsCpu e).params, (s.applyEffect_keepsMemory e).prg, (s.applyEffect_keepsMemory e).kind, ?_⟩
  intro hw
  cases e with
  | setExtIrq b => rfl
  | notifyChrRead a => exact s.notifyChrRead_chr a
  | notifyScanlineEdge => exact s.notifyScanlineEdge_chr
  | chrWrite a v => exact s.vwrite_chr a v hw
  | ntWrite a v => exact s.vwrite_chr a v hw

theorem State.applyEffects_keepsLoaded (es : List DeviceEffect) (s : State) : KeepsLoaded s (s.applyEffects es) := by
  induction es generalizing s with
  | nil => exact KeepsLoaded.refl s
  | cons e rest ih => exact (s.applyEffect_keepsLoaded e).trans (ih (s.applyEffect e))

theorem State.tickDevice_keepsLoaded (s : State) : KeepsLoaded s s.tickDevice := ⟨rfl, rfl, rfl, fun _ => rfl⟩

theorem State.deviceRead_keepsLoaded (s : State) (port : DevicePort) (reg : BitVec 5) :
    KeepsLoaded s (s.deviceRead port reg).2 :=
  (s.applyEffects_keepsLoaded _).trans (State.tickDevice_keepsLoaded _)

theorem State.deviceWrite_keepsLoaded (s : State) (port : DevicePort) (reg : BitVec 5) (v : Byte) :
    KeepsLoaded s (s.deviceWrite port reg v) :=
  (s.applyEffects_keepsLoaded _).trans (State.tickDevice_keepsLoaded _)

theorem State.read8_keepsLoaded (s : State) (a : Word) : KeepsLoaded s (s.read8 a).2 := by
  unfold State.read8
  split
  · exact s.deviceRead_keepsLoaded _ _
  · exact KeepsLoaded.refl s

/-- R245: a write reaches CHR through a device's effects only. -/
theorem State.write8_chr (s : State) (a : Word) (v : Byte) (hw : s.params.chrWritable = false) :
    (s.write8 a v).bus.chr = s.bus.chr := by
  unfold State.write8
  split
  · rfl
  · rfl
  · rfl
  · exact (s.deviceWrite_keepsLoaded _ _ v).chr hw
  · exact (s.mapperWrite_keeps a v).2.chr
  · rfl

theorem State.write8_keepsLoaded (s : State) (a : Word) (v : Byte) : KeepsLoaded s (s.write8 a v) :=
  ⟨s.write8_params a v, (s.write8_rom a v).1, (s.write8_rom a v).2, s.write8_chr a v⟩

theorem KeepsBus.keepsLoaded {s t : State} (k : KeepsBus s t) : KeepsLoaded s t :=
  ⟨k.params, by rw [k.bus], by rw [k.bus], fun _ => by rw [k.bus]⟩

theorem keepsLoaded_accessClosed : AccessClosed KeepsLoaded where
  trans := KeepsLoaded.trans
  ofKeepsBus := KeepsBus.keepsLoaded
  read8 := State.read8_keepsLoaded
  write8 := State.write8_keepsLoaded

/-! ### The host calls -/

theorem guarded_eq_some {p : Prop} [Decidable p] {u t : State} (h : (if p then some u else none) = some t) : p ∧ t = u := by
  obtain ⟨hp, h⟩ := Option.ite_none_right_eq_some.1 h
  exact ⟨hp, (Option.some.inj h).symm⟩

/-- R345: everything a host call can do. A bare core's calls move the line; the bus calls do what a device's effects do. -/
theorem State.hostCall_cases {c : HostCall} {s t : State} (h : s.hostCall c = some t) :
    t = s.cpuReset ∨ t = s.assertNmi ∨ (∃ level, s.params.bus = .flatRam ∧ t = s.setIrqLine level) ∨
      (∃ e, s.params.bus = .reference ∧ t = s.applyEffect e) ∨ ∃ n, c = .restore n ∧ n.restore s = some t := by
  cases c with
  | reset => exact .inl (Option.some.inj h).symm
  | assertNmi => exact .inr (.inl (Option.some.inj h).symm)
  | assertIrq => exact .inr (.inr (.inl ⟨true, guarded_eq_some h⟩))
  | clearIrq => exact .inr (.inr (.inl ⟨false, guarded_eq_some h⟩))
  | setExtIrq level => exact .inr (.inr (.inr (.inl ⟨.setExtIrq level, guarded_eq_some h⟩)))
  | notifyScanlineEdge => exact .inr (.inr (.inr (.inl ⟨.notifyScanlineEdge, guarded_eq_some h⟩)))
  | notifyChrRead a => exact .inr (.inr (.inr (.inl ⟨.notifyChrRead a, guarded_eq_some h⟩)))
  | chrWrite a v => exact .inr (.inr (.inr (.inl ⟨.chrWrite a v, guarded_eq_some h⟩)))
  | ntWrite a v => exact .inr (.inr (.inr (.inl ⟨.ntWrite a v, guarded_eq_some h⟩)))
  | restore n => exact .inr (.inr (.inr (.inr ⟨n, rfl, h⟩)))

/-- R41, U14: a restore happens only where the snapshot fits, and then it is the whole replace. -/
theorem Snapshot.restore_eq_some {n : Snapshot} {s t : State} (h : n.restore s = some t) :
    n.fits s = true ∧
      t =
        { s with
          reg := { a := n.a, x := n.x, y := n.y, s := n.s, pc := n.pc, p := Flags.ofStatusByte n.p },
          intc := { nmiPending := n.nmiPending, irqLine := n.irqLine },
          bus :=
            { s.bus with
              ram := n.ram, wram := n.wram, vram := n.vram, flat := n.flat, chr := n.chr.getD s.bus.chr,
              irqSrcMapper := n.irqSrcMapper, irqSrcExt := n.irqSrcExt, mirroring := n.mirroring, mapper := n.mapper } } := by
  unfold Snapshot.restore at h
  split at h
  · rename_i hf
    exact ⟨hf, (Option.some.inj h).symm⟩
  · cases h

/-- R242: a snapshot that fits is of the machine's variant. -/
theorem Snapshot.kind_of_fits {n : Snapshot} {s : State} (h : n.fits s = true) :
    n.mapper.kind = s.bus.mapper.kind := by
  simp only [Snapshot.fits, Bool.and_eq_true, beq_iff_eq] at h
  exact h.1.2

/-- R41: a snapshot that fits a machine with read-only CHR holds no CHR. -/
theorem Snapshot.chr_of_fits {n : Snapshot} {s : State} (h : n.fits s = true) (hw : s.params.chrWritable = false) :
    n.chr = none := by
  cases hc : n.chr with
  | none => rfl
  | some m => simp [Snapshot.fits, hc, hw] at h

theorem Snapshot.restore_keepsLoaded {n : Snapshot} {s t : State} (h : n.restore s = some t) : KeepsLoaded s t := by
  obtain ⟨hf, rfl⟩ := Snapshot.restore_eq_some h
  refine ⟨rfl, rfl, Snapshot.kind_of_fits hf, fun hw => ?_⟩
  simp only [Snapshot.chr_of_fits hf hw, Option.getD_none]

theorem State.hostCall_keepsLoaded (c : HostCall) (s t : State) (h : s.hostCall c = some t) : KeepsLoaded s t := by
  rcases State.hostCall_cases h with rfl | rfl | ⟨level, -, rfl⟩ | ⟨e, -, rfl⟩ | ⟨n, -, hn⟩
  · exact keepsLoaded_accessClosed.cpuReset s
  · exact ⟨rfl, rfl, rfl, fun _ => rfl⟩
  · exact ⟨rfl, rfl, rfl, fun _ => rfl⟩
  · exact s.applyEffect_keepsLoaded e
  · exact Snapshot.restore_keepsLoaded hn

/-- Settles O47: `KeepsLoaded` is one of the relations that every step respects, and every host call respects it too. -/
theorem romAndParametersNeverChange : Obligations.RomAndParametersNeverChange := by
  intro es s t hrun
  obtain ⟨hparams, hprg, hkind, hchr⟩ := keepsLoaded_accessClosed.runEvents State.hostCall_keepsLoaded es s t hrun
  exact ⟨hparams, hprg, hkind, hchr⟩

end Sys2Proof.Machine
end

section
/-! The status image as a number (R27), the snapshot (R41), and the interrupt calls (R291, R292). -/

namespace Sys2Proof.Machine

open Sys2Proof.Config

theorem Flags.statusByte_eq_concat (p : Flags) (b : Bool) :
    p.statusByte b =
      (((((((BitVec.ofBool p.n).concat p.v).concat true).concat b).concat p.d).concat p.i).concat p.z).concat p.c := rfl

theorem Flags.statusByte_toNat (p : Flags) (b : Bool) :
    (p.statusByte b).toNat =
      128 * p.n.toNat + 64 * p.v.toNat + 32 + 16 * b.toNat + 8 * p.d.toNat + 4 * p.i.toNat + 2 * p.z.toNat + p.c.toNat := by
  simp only [p.statusByte_eq_concat, BitVec.toNat_concat, BitVec.toNat_ofBool, Bool.toNat_true]
  omega

/-- R27: the inverse gives the flags back, whatever the break bit. -/
theorem Flags.ofStatusByte_statusByte (p : Flags) (b : Bool) : Flags.ofStatusByte (p.statusByte b) = p := by
  simp [Flags.ofStatusByte, p.statusByte_eq_concat, BitVec.getElem_concat]

/-- Settles O36: the image is a sum of weighted bits, and so is every byte, bits 5 and 4 being a digit that no flag names. -/
theorem statusImagePlacesTheFlags : Obligations.StatusImagePlacesTheFlags := by
  refine ⟨Flags.statusByte_toNat, ?_⟩
  rintro _ v rfl
  have bits (i : Nat) : (v.getLsbD i).toNat = v.toNat / 2 ^ i % 2 := Nat.toNat_testBit _ _
  have hv := v.isLt
  simp only [Flags.ofStatusByte, bits]
  omega

/-- Settles O58: the NMI call by definition, the two IRQ calls because the bus is the flat RAM. -/
theorem interruptCallsSetTheFlags : Obligations.InterruptCallsSetTheFlags :=
  fun _ => ⟨rfl, fun hbare => ⟨if_pos hbare, if_pos hbare⟩⟩

/-- R41: a snapshot of a state of the invariant fits every state of the same machine. -/
theorem State.snapshot_fits {s u : State} (hs : s.wf = true) (hp : u.params = s.params)
    (hk : u.bus.mapper.kind = s.bus.mapper.kind) : s.snapshot.fits u = true := by
  obtain ⟨ram, wram, vram, flat, -, chr, -, -, irq⟩ := (State.wf_iff s).1 hs
  cases hw : s.params.chrWritable <;>
    simp [Snapshot.fits, State.snapshot, hp, hk, hw, ram, wram, vram, flat, chr, irq]

/-- R41: CHR after a restore, taken from the snapshot or left as the machine's. -/
theorem State.snapshot_chr_getD {s u : State} (hc : s.params.chrWritable = false → u.bus.chr = s.bus.chr) :
    s.snapshot.chr.getD u.bus.chr = s.bus.chr := by
  cases hw : s.params.chrWritable with
  | true => simp [State.snapshot, hw]
  | false => simpa [State.snapshot, hw] using hc hw

/-- Settles O59: the snapshot fits, and each part it replaces comes back, P through the status image. -/
theorem snapshotRoundTrip : Obligations.SnapshotRoundTrip := by
  refine ⟨fun s u hs hp hprg hk hc => ?_, fun n u hne => ?_⟩
  · have hfits := State.snapshot_fits hs hp hk
    have hchr := State.snapshot_chr_getD hc
    rw [State.hostCall, Snapshot.restore, if_pos hfits, hchr, hp]
    simp [State.snapshot, hprg, Flags.ofStatusByte_statusByte]
  · exact if_neg fun hfits => hne (Snapshot.kind_of_fits hfits)

end Sys2Proof.Machine
end

section
/-! The window of the vectors (R58): on each mapper variant 0xE000 to 0xFFFF shows the last PRG bank. -/

namespace Sys2Proof.Machine

open Sys2Proof.Config

/-- R252, R255, R269: no field of any variant selects the bank of the last window. -/
theorem prgWindowBank_three (m : Mapper) (n : Nat) : prgWindowBank m n 3 = (n : Int) - 1 := by
  cases m with
  | fixed =>
    simp only [prgWindowBank]
    omega
  | scanlineIrq => rfl
  | chrLatch => rfl

/-- R248: the last bank is its own reduction, where there is a bank at all. -/
theorem prgBank_last {n : Nat} (h : 0 < n) : prgBank n ((n : Int) - 1) = n - 1 := by
  rw [prgBank, Int.emod_eq_of_lt (by omega) (by omega)]
  omega

theorem prgIndex_of_ge_E000 (m : Mapper) {n : Nat} (hn : 0 < n) {a : Word} (ha : 0xE000 ≤ a.toNat) :
    prgIndex m n a = (n - 1) * 8192 + a.toNat % 8192 := by
  have hwindow : a.toNat / 8192 % 4 = 3 := by
    have := a.isLt
    omega
  rw [prgIndex, hwindow, prgWindowBank_three, prgBank_last hn, prgBankSize]

/-- R245: on the reference bus the addresses from 0x8000 on are the PRG window. -/
theorem region_prg {p : Params} (hp : p.bus = .reference) {a : Word} (ha : 0x8000 ≤ a.toNat) : region p a = .prg := by
  simp only [region, hp, show ¬ a.toNat < 0x2000 by omega, show ¬ a.toNat < 0x4000 by omega,
    show ¬ a.toNat < 0x4020 by omega, show ¬ a.toNat < 0x6000 by omega, show ¬ a.toNat < 0x8000 by omega, if_false]

/-- R58: what the window of the vectors reads, by PRG and the parameters alone. -/
theorem State.peek_vectorWindow (s : State) {a : Word} (hbus : s.params.bus = .reference) (hn : 0 < s.params.prgBanks)
    (ha : 0xE000 ≤ a.toNat) : s.peek a = s.bus.prg.get ((s.params.prgBanks - 1) * 8192 + a.toNat % 8192) := by
  rw [State.peek, region_prg hbus (Nat.le_trans (by decide) ha)]
  exact congrArg s.bus.prg.get (prgIndex_of_ge_E000 s.bus.mapper hn ha)

/-- Settles O48: the window reads by PRG and the parameters alone, and no event changes either. -/
theorem vectorWindowIsFixed : Obligations.VectorWindowIsFixed := by
  intro es s t a hs hbus ha hrun
  obtain ⟨hparams, hprg, -, -⟩ := romAndParametersNeverChange es s t hrun
  have hbanks := isPowerOfTwo_pos _ ((State.wf_iff s).1 hs).prgBanks
  rw [← hprg, ← hparams]
  rw [← hparams] at hbus hbanks
  exact t.peek_vectorWindow hbus hbanks ha

end Sys2Proof.Machine
end

section
/-! A load after a store (R60, R245). -/

namespace Sys2Proof.Machine

/-- R174: STA abs is one write at its address. -/
theorem exec_staAbs (w : Word) (s : State) : exec (.staAbs w) s = .next ((s.write8 w s.reg.a).took 4) := rfl

/-- R171: LDA abs at memory is free of side effects, and A takes the byte there. -/
theorem exec_ldaAbs_memory (w : Word) (s : State) (h : s.isDevice w = false) :
    exec (.ldaAbs w) s = .next ((lda (s.peek w) s).took 4) := by
  change Host.Outcome.next ((lda (s.read8 w).1 (s.read8 w).2).took 4) = _
  rw [s.read8_memory w h]

/-- R245: two addresses of one byte of writable memory read alike. -/
theorem State.peek_eq_of_sameCell {s : State} {a b : Word} (h : s.sameCell a b = true) : s.peek b = s.peek a := by
  simp only [State.sameCell, Bool.and_eq_true, beq_iff_eq] at h
  obtain ⟨hwritable, hregion⟩ := h
  rcases s.isWritable_cases a hwritable with ⟨i, hi⟩ | ⟨i, hi⟩ | ⟨i, hi⟩ <;>
    simp only [State.peek, ← hregion, hi]

/-- R60, R245: every byte after a store to writable memory: the value stored at the mirrors of its address, the old byte
elsewhere. -/
theorem State.peek_write8 (s : State) (a b : Word) (v : Byte) (hs : s.wf = true) (ha : s.isWritable a = true) :
    (s.write8 a v).peek b = if s.sameCell a b then v else s.peek b := by
  cases hsame : s.sameCell a b with
  | true =>
    have hmirror : (s.write8 a v).sameCell a b = true := (State.sameCell_congr (s.write8_params a v) a b).trans hsame
    rw [State.peek_eq_of_sameCell hmirror, s.peek_write8_self a v hs ha, if_pos rfl]
  | false => exact s.peek_write8_other a b v ha hsame

/-- Settles O35: A takes the byte that the state after the store shows at the address loaded from. -/
theorem loadSeesTheStore : Obligations.LoadSeesTheStore := by
  intro s w w' hs hw hw'
  have hmemory : ((s.write8 w s.reg.a).took 4).isDevice w' = false :=
    (State.isDevice_congr (s.write8_params w s.reg.a) w').trans hw'
  exact ⟨_, _, exec_staAbs w s, exec_ldaAbs_memory w' _ hmemory, s.peek_write8 w w' s.reg.a hs hw⟩

end Sys2Proof.Machine
end

section
/-! The round trip of encoder and decoder (spec/30_encoding.md). The two hold one copy of the opcode map each: the list by
mnemonic R84 and the matrix R85. `Filed` says that the copies agree at one instruction. It holds of every instruction
(`filed_opcode`) and at every opcode byte (`filed_build`); each direction of the round trip is a short use of one of these. -/

namespace Sys2Proof

/-! ### An operand word and its two bytes (R52) -/

@[simp] theorem wordOf_highByte_lowByte (w : Word) : wordOf (highByte w) (lowByte w) = w := by
  rw [wordOf, highByte, lowByte, BitVec.extractLsb'_append_extractLsb'_eq_extractLsb' (by rfl), BitVec.extractLsb'_eq_self]

@[simp] theorem lowByte_wordOf (hi lo : Byte) : lowByte (wordOf hi lo) = lo := BitVec.extractLsb'_append_eq_right

@[simp] theorem highByte_wordOf (hi lo : Byte) : highByte (wordOf hi lo) = hi := BitVec.extractLsb'_append_eq_left

/-! ### The decoder, by the length of the opcode's mode (R81) -/

theorem decode_of_length_one {op : Byte} (h : (dispatch op).mode.length = 1) (rest : List Byte) :
    decode (op :: rest) = .ok ((dispatch op).build 0 0, rest) := by
  simp [decode, h]

theorem decode_of_length_two {op : Byte} (h : (dispatch op).mode.length = 2) (b : Byte) (rest : List Byte) :
    decode (op :: b :: rest) = .ok ((dispatch op).build b 0, rest) := by
  simp [decode, h]

theorem decode_of_length_three {op : Byte} (h : (dispatch op).mode.length = 3) (lo hi : Byte) (rest : List Byte) :
    decode (op :: lo :: hi :: rest) = .ok ((dispatch op).build lo hi, rest) := by
  simp [decode, h]

/-! ### Where the two copies of the map agree -/

/-- The entry at `op` is that of the instruction `i`, whatever the operand, and the encoder gives `i` this opcode byte. -/
inductive Filed (op : Byte) : Instr → Prop where
  | imp {i : Instr} (length : (dispatch op).mode.length = 1) (build : ∀ lo hi, (dispatch op).build lo hi = i)
      (bytes : encode i = [op]) : Filed op i
  | byte {f : Byte → Instr} (length : (dispatch op).mode.length = 2) (build : ∀ lo hi, (dispatch op).build lo hi = f lo)
      (bytes : ∀ b, encode (f b) = [op, b]) (b : Byte) : Filed op (f b)
  | word {f : Word → Instr} (length : (dispatch op).mode.length = 3)
      (build : ∀ lo hi, (dispatch op).build lo hi = f (wordOf hi lo))
      (bytes : ∀ w, encode (f w) = [op, lowByte w, highByte w]) (w : Word) : Filed op (f w)

/-- R84 against R85, instruction by instruction: those with an operand byte, those with an operand word, and the rest. -/
theorem filed_opcode (i : Instr) : Filed ((encode i).headD 0x00) i := by
  cases i with
  | adcImm b | adcZp b | adcZpx b | adcIzx b | adcIzy b | sbcImm b | sbcZp b | sbcZpx b | sbcIzx b | sbcIzy b
  | incZp b | incZpx b | decZp b | decZpx b | andImm b | andZp b | andZpx b | andIzx b | andIzy b | oraImm b | oraZp b
  | oraZpx b | oraIzx b | oraIzy b | eorImm b | eorZp b | eorZpx b | eorIzx b | eorIzy b | bitZp b | cmpImm b
  | cmpZp b | cmpZpx b | cmpIzx b | cmpIzy b | cpxImm b | cpxZp b | cpyImm b | cpyZp b | aslZp b | aslZpx b | lsrZp b
  | lsrZpx b | rolZp b | rolZpx b | rorZp b | rorZpx b | ldaImm b | ldaZp b | ldaZpx b | ldaIzx b | ldaIzy b
  | ldxImm b | ldxZp b | ldxZpy b | ldyImm b | ldyZp b | ldyZpx b | staZp b | staZpx b | staIzx b | staIzy b | stxZp b
  | stxZpy b | styZp b | styZpx b | bcc b | bcs b | beq b | bne b | bmi b | bpl b | bvc b | bvs b =>
    rw [encode, List.headD_cons]
    exact .byte rfl (fun _ _ => rfl) (fun _ => rfl) b
  | adcAbs w | adcAbx w | adcAby w | sbcAbs w | sbcAbx w | sbcAby w | incAbs w | incAbx w | decAbs w | decAbx w
  | andAbs w | andAbx w | andAby w | oraAbs w | oraAbx w | oraAby w | eorAbs w | eorAbx w | eorAby w | bitAbs w
  | cmpAbs w | cmpAbx w | cmpAby w | cpxAbs w | cpyAbs w | aslAbs w | aslAbx w | lsrAbs w | lsrAbx w | rolAbs w
  | rolAbx w | rorAbs w | rorAbx w | ldaAbs w | ldaAbx w | ldaAby w | ldxAbs w | ldxAby w | ldyAbs w | ldyAbx w
  | staAbs w | staAbx w | staAby w | stxAbs w | styAbs w | jmpAbs w | jmpInd w | jsr w =>
    rw [encode, List.headD_cons]
    exact .word rfl (fun _ _ => rfl) (fun _ => rfl) w
  | _ => exact .imp rfl (fun _ _ => rfl) rfl

/-- R85 against R84: the instruction in the entry of an opcode byte is encoded with that opcode byte. -/
theorem opcode_build_zero (op : Byte) : (encode ((dispatch op).build 0 0)).headD 0x00 = op := by
  revert op
  decide

/-- The operand does not change the entry an instruction stands in. -/
theorem filed_build (op lo hi : Byte) : Filed op ((dispatch op).build lo hi) := by
  have h : Filed op ((dispatch op).build 0 0) := by
    simpa only [opcode_build_zero] using filed_opcode ((dispatch op).build 0 0)
  generalize (dispatch op).build 0 0 = i at h
  cases h with
  | imp length build bytes => rw [build]; exact .imp length build bytes
  | byte length build bytes => rw [build]; exact .byte length build bytes lo
  | word length build bytes => rw [build]; exact .word length build bytes (wordOf hi lo)

/-! ### From an instruction to its bytes and back -/

theorem Filed.decode_encode {op : Byte} {i : Instr} (h : Filed op i) (rest : List Byte) :
    decode (encode i ++ rest) = .ok (i, rest) := by
  cases h with
  | imp length build bytes =>
    rw [bytes, List.singleton_append, decode_of_length_one length, build]
  | byte length build bytes b =>
    rw [bytes]
    exact (decode_of_length_two length b rest).trans (by rw [build])
  | word length build bytes w =>
    rw [bytes]
    exact (decode_of_length_three length (lowByte w) (highByte w) rest).trans (by rw [build, wordOf_highByte_lowByte])

/-- Settles O1: every instruction stands in the entry of its own opcode byte. -/
theorem decodeOfEncode : Obligations.DecodeOfEncode :=
  fun i rest _ => (filed_opcode i).decode_encode rest

/-! ### From bytes to an instruction and back -/

/-- R81, R84: the encoder gives back the opcode byte and as many operand bytes as the opcode's mode has. -/
theorem encode_build (op lo hi : Byte) :
    encode ((dispatch op).build lo hi) = [op, lo, hi].take (dispatch op).mode.length := by
  have h := filed_build op lo hi
  generalize hinstr : (dispatch op).build lo hi = i at h
  cases h with
  | imp length build bytes => rw [bytes, length]; rfl
  | byte length build bytes b => rw [← hinstr, build, bytes, length]; rfl
  | word length build bytes w => rw [← hinstr, build, bytes, length, lowByte_wordOf, highByte_wordOf]; rfl

/-- What the decoder reads is the encoding of its answer, and then the bytes it leaves. -/
theorem encode_append_of_decode {bytes rest : List Byte} {i : Instr} (h : decode bytes = .ok (i, rest)) :
    encode i ++ rest = bytes := by
  unfold decode at h
  split at h
  · cases h
  · split at h <;> cases h
    all_goals
      rename_i length
      rw [encode_build, length]
      rfl

theorem decode_eq_ok_iff (i : Instr) (bytes : List Byte) : decode bytes = .ok (i, []) ↔ bytes = encode i := by
  constructor
  · intro h
    simpa using (encode_append_of_decode h).symm
  · rintro rfl
    simpa using (filed_opcode i).decode_encode []

/-- R81: the length table and the modes of the dispatch table say the same. -/
theorem dispatch_mode_length (op : Byte) : (dispatch op).mode.length = opcodeLength op := by
  revert op
  decide

/-- R81: an encoding is the opcode byte and the operand bytes that the opcode asks for. -/
theorem Filed.encode_eq_cons {op : Byte} {i : Instr} (h : Filed op i) :
    ∃ operand, encode i = op :: operand ∧ operand.length + 1 = opcodeLength op := by
  rw [← dispatch_mode_length]
  cases h with
  | imp length build bytes => exact ⟨[], bytes, length.symm⟩
  | byte length build bytes b => exact ⟨[b], bytes b, length.symm⟩
  | word length build bytes w => exact ⟨[lowByte w, highByte w], bytes w, length.symm⟩

/-- Settles O2: the instruction is the one in the opcode byte's entry; its encoding is cut from the front of the three bytes. -/
theorem everyOpcodeDecodes : Obligations.EveryOpcodeDecodes := by
  intro op lo hi
  have filed := filed_build op lo hi
  have bytes : encode ((dispatch op).build lo hi) ++ [op, lo, hi].drop (dispatch op).mode.length = [op, lo, hi] := by
    rw [encode_build, List.take_append_drop]
  have read := filed.decode_encode ([op, lo, hi].drop (dispatch op).mode.length)
  rw [bytes] at read
  obtain ⟨operand, hcons, hlength⟩ := filed.encode_eq_cons
  refine ⟨_, _, read, bytes, ?_, ?_, decode_eq_ok_iff _⟩
  · rw [hcons, List.length_cons, hlength]
  · rw [hcons, wfBytes, hlength, beq_self_eq_true]

/-- Settles O3: each word is what the encoder writes for the instruction named beside it. -/
theorem wordsDecodeAsTheTableSays : Obligations.WordsDecodeAsTheTableSays := by
  have reads (i : Instr) : decode (encode i) = .ok (i, []) := (decode_eq_ok_iff i _).2 rfl
  exact
    ⟨reads (.adcAbs 0x1234), reads (.ldaIzy 0x10), reads (.jmpInd 0x30FF), reads (.stxZpy 0xFF), reads (.bne 0xFE),
      reads .aslAcc, reads .brk, reads (.cmpImm 0x10), reads .plp, reads .und02⟩

end Sys2Proof
end

section
/-! The resolver (R100 to R112): what each mode computes, the addresses as numbers. -/

namespace Sys2Proof.Machine

/-! ### Addresses and pages -/

theorem wordOf_toNat (hi lo : Byte) : (wordOf hi lo).toNat = hi.toNat * 256 + lo.toNat := by
  rw [wordOf, BitVec.toNat_append, ← Nat.shiftLeft_add_eq_or_of_lt lo.isLt, Nat.shiftLeft_eq]

theorem highByte_toNat (w : Word) : (highByte w).toNat = w.toNat / 256 := by
  rw [highByte, BitVec.extractLsb'_toNat, Nat.shiftRight_eq_div_pow]
  have := w.isLt
  omega

/-- R108, R114: a page is 256 addresses long. -/
theorem pagesDiffer_iff (x y : Word) : pagesDiffer x y = true ↔ x.toNat / 256 ≠ y.toNat / 256 := by
  rw [pagesDiffer, bne_iff_ne, ne_eq, ← BitVec.toNat_inj, highByte_toNat, highByte_toNat]

theorem zeroPage_toNat (b : Byte) : (zeroPage b).toNat = b.toNat := by
  simp [zeroPage, wordOf_toNat]

/-- R104, R245: the zero page is RAM on the reference bus. -/
theorem State.zeroPage_isDevice (s : State) (b : Byte) : s.isDevice (zeroPage b) = false := by
  cases hbus : s.params.bus with
  | flatRam => exact s.isDevice_flat _ hbus
  | reference =>
    have hb : (zeroPage b).toNat < 0x2000 := by
      have := b.isLt
      rw [zeroPage_toNat]
      omega
    simp only [State.isDevice, region, hbus, hb, if_true]

/-! ### Pointers -/

/-- R111, R112: a pointer in the zero page, read without side effect. -/
theorem State.readZeroPagePointer_eq (s : State) (z : Byte) :
    s.readZeroPagePointer z = (wordOf (s.peek (zeroPage (z + 1))) (s.peek (zeroPage z)), s) := by
  simp only [State.readZeroPagePointer, s.read8_memory _ (s.zeroPage_isDevice _)]

/-- R110: the jump pointer, where neither of its bytes is a device register. -/
theorem State.readJumpPointer_memory (s : State) {hi lo : Byte} (hlow : s.isDevice (wordOf hi lo) = false)
    (hhigh : s.isDevice (wordOf hi (lo + 1)) = false) :
    s.readJumpPointer (wordOf hi lo) = (wordOf (s.peek (wordOf hi (lo + 1))) (s.peek (wordOf hi lo)), s) := by
  simp only [State.readJumpPointer, highByte_wordOf, lowByte_wordOf, s.read8_memory _ hlow, s.read8_memory _ hhigh]

/-! ### Indexing (R108, R109, R112) -/

theorem indexed_ea_toNat (hi lo index : Byte) (s : State) :
    (indexed (wordOf hi lo) index s).ea.toNat = (hi.toNat * 256 + lo.toNat + index.toNat) % 65536 := by
  simp [indexed, wordOf_toNat]

/-- The page changes exactly where the low byte and the index carry, also where that wraps past 0xFFFF. -/
theorem indexed_crossed_iff (hi lo index : Byte) (s : State) :
    (indexed (wordOf hi lo) index s).crossed = true ↔ 256 ≤ lo.toNat + index.toNat := by
  have hea : (wordOf hi lo + index.setWidth 16).toNat = (hi.toNat * 256 + lo.toNat + index.toNat) % 65536 :=
    indexed_ea_toNat hi lo index s
  rw [indexed, pagesDiffer_iff, hea, wordOf_toNat]
  have := hi.isLt
  have := lo.isLt
  have := index.isLt
  omega

/-! ### The modes -/

theorem resolve_izx (b : Byte) (s : State) :
    resolve (.izx b) s =
      ⟨wordOf (s.peek (zeroPage (b + s.reg.x + 1))) (s.peek (zeroPage (b + s.reg.x))), false, s⟩ := by
  simp only [resolve, s.readZeroPagePointer_eq]

theorem resolve_izy (b : Byte) (s : State) :
    resolve (.izy b) s = indexed (wordOf (s.peek (zeroPage (b + 1))) (s.peek (zeroPage b))) s.reg.y s := by
  simp only [resolve, s.readZeroPagePointer_eq]

theorem resolve_ind_memory (s : State) {hi lo : Byte} (hlow : s.isDevice (wordOf hi lo) = false)
    (hhigh : s.isDevice (wordOf hi (lo + 1)) = false) :
    resolve (.ind (wordOf hi lo)) s = ⟨wordOf (s.peek (wordOf hi (lo + 1))) (s.peek (wordOf hi lo)), false, s⟩ := by
  simp only [resolve, s.readJumpPointer_memory hlow hhigh]

/-- Settles O16: the sum is one of bytes, so it stays an address of page 0. -/
theorem zeroPageModesWrap : Obligations.ZeroPageModesWrap := by
  intro b s
  have sum (index : Byte) : (zeroPage (b + index)).toNat = (b.toNat + index.toNat) % 256 := by
    rw [zeroPage_toNat, BitVec.toNat_add]
  exact ⟨⟨zeroPage_toNat b, rfl, rfl⟩, ⟨sum s.reg.x, rfl, rfl⟩, ⟨sum s.reg.y, rfl, rfl⟩⟩

/-- Settles O17: X and Y are two uses of the one rule of indexing. -/
theorem absoluteModesWrapAndCross : Obligations.AbsoluteModesWrapAndCross :=
  fun hi lo s =>
    ⟨⟨wordOf_toNat hi lo, rfl, rfl⟩,
      ⟨indexed_ea_toNat hi lo s.reg.x s, indexed_crossed_iff hi lo s.reg.x s, rfl⟩,
      ⟨indexed_ea_toNat hi lo s.reg.y s, indexed_crossed_iff hi lo s.reg.y s, rfl⟩⟩

/-- Settles O18: the zero page is memory, so IZX and IZY read their pointers without side effect; IND's is by hypothesis. -/
theorem pointerModesStayOnOnePage : Obligations.PointerModesStayOnOnePage := by
  intro b s
  refine ⟨resolve_izx b s, ?_, fun _ _ hlow hhigh => resolve_ind_memory s hlow hhigh⟩
  rw [resolve_izy]
  exact ⟨indexed_ea_toNat _ _ s.reg.y s, indexed_crossed_iff _ _ s.reg.y s, rfl⟩

end Sys2Proof.Machine
end

section
/-! What each form of a read, store or read-modify-write instruction does (R84, R115): its bytes are the instruction's, and
its meaning is the shape of its class over the operation of its mnemonic. -/

namespace Sys2Proof.Machine

theorem Runs.unique {bytes : List Byte} {i : Instr} {s t u : State} (ht : Runs bytes i s t) (hu : Runs bytes i s u) :
    t = u :=
  Host.Outcome.next.inj (ht.2.symm.trans hu.2)

/-! ### The next state of each class -/

/-- R115, class "read": the operation on the operand `M`, after the reads. -/
def Form.readResult (f : Form) (op : Byte → State → State) (s : State) : State :=
  (op (f.operandRead s).1 (f.operandRead s).2).took (f.readCycles s)

/-- R115, class "store": one write of `v`, after the reads of the mode. -/
def Form.storeResult (f : Form) (v : Byte) (s : State) : State :=
  ((resolve f.operand s).state.write8 (resolve f.operand s).ea v).took f.cycles

/-- R131, R160: what the operation of a read-modify-write instruction makes of the byte it reads: the result, and the state
before the write. -/
def Form.modification (f : Form) (op : Byte → State → Byte × State) (s : State) : Byte × State :=
  op ((resolve f.operand s).state.read8 (resolve f.operand s).ea).1
    ((resolve f.operand s).state.read8 (resolve f.operand s).ea).2

/-- R115, class "read-modify-write": one write of the operation's result, and SetZN of it. -/
def Form.modifyResult (f : Form) (op : Byte → State → Byte × State) (s : State) : State :=
  let t := f.modification op s
  ((t.2.write8 (resolve f.operand s).ea t.1).setZN t.1).took f.cycles

theorem readInstr_eq_readResult (f : Form) (op : Byte → State → State) (s : State) :
    readInstr f.cycles f.penalised f.operand op s = .next (f.readResult op s) := by
  rw [readInstr_eq, Form.readResult, Form.readCycles, Resolved.penalty_eq]
  cases f.penalised <;> rfl

theorem storeInstr_eq_storeResult (f : Form) (v : Byte) (s : State) :
    storeInstr f.cycles f.operand v s = .next (f.storeResult v s) := rfl

theorem rmwInstr_eq_modifyResult (f : Form) (op : Byte → State → Byte × State) (s : State) :
    rmwInstr f.cycles f.operand op s = .next (f.modifyResult op s) := rfl

/-- A form whose meaning is the shape of a class runs as the class says. -/
theorem runs_of_readInstr {f : Form} {op : Byte → State → State} {s : State} (hbytes : decode f.bytes = .ok (f.instr, []))
    (hexec : exec f.instr s = readInstr f.cycles f.penalised f.operand op s) :
    Runs f.bytes f.instr s (f.readResult op s) :=
  ⟨hbytes, hexec.trans (readInstr_eq_readResult f op s)⟩

theorem runs_of_storeInstr {f : Form} {v : Byte} {s : State} (hbytes : decode f.bytes = .ok (f.instr, []))
    (hexec : exec f.instr s = storeInstr f.cycles f.operand v s) : Runs f.bytes f.instr s (f.storeResult v s) :=
  ⟨hbytes, hexec.trans (storeInstr_eq_storeResult f v s)⟩

theorem runs_of_rmwInstr {f : Form} {op : Byte → State → Byte × State} {s : State}
    (hbytes : decode f.bytes = .ok (f.instr, [])) (hexec : exec f.instr s = rmwInstr f.cycles f.operand op s) :
    Runs f.bytes f.instr s (f.modifyResult op s) :=
  ⟨hbytes, hexec.trans (rmwInstr_eq_modifyResult f op s)⟩

/-! ### The read instructions -/

section
variable {b lo hi : Byte} {f : Form}

theorem adcForms_runs (hf : f ∈ adcForms b lo hi) (s : State) : Runs f.bytes f.instr s (f.readResult adc s) := by
  rw [adcForms] at hf
  fin_cases hf <;> exact runs_of_readInstr rfl rfl

theorem sbcForms_runs (hf : f ∈ sbcForms b lo hi) (s : State) : Runs f.bytes f.instr s (f.readResult sbc s) := by
  rw [sbcForms] at hf
  fin_cases hf <;> exact runs_of_readInstr rfl rfl

theorem andForms_runs (hf : f ∈ andForms b lo hi) (s : State) : Runs f.bytes f.instr s (f.readResult andA s) := by
  rw [andForms] at hf
  fin_cases hf <;> exact runs_of_readInstr rfl rfl

theorem oraForms_runs (hf : f ∈ oraForms b lo hi) (s : State) : Runs f.bytes f.instr s (f.readResult oraA s) := by
  rw [oraForms] at hf
  fin_cases hf <;> exact runs_of_readInstr rfl rfl

theorem eorForms_runs (hf : f ∈ eorForms b lo hi) (s : State) : Runs f.bytes f.instr s (f.readResult eorA s) := by
  rw [eorForms] at hf
  fin_cases hf <;> exact runs_of_readInstr rfl rfl

theorem bitForms_runs (hf : f ∈ bitForms b lo hi) (s : State) : Runs f.bytes f.instr s (f.readResult bitA s) := by
  rw [bitForms] at hf
  fin_cases hf <;> exact runs_of_readInstr rfl rfl

theorem cmpForms_runs (hf : f ∈ cmpForms b lo hi) (s : State) : Runs f.bytes f.instr s (f.readResult cmpA s) := by
  rw [cmpForms] at hf
  fin_cases hf <;> exact runs_of_readInstr rfl rfl

theorem cpxForms_runs (hf : f ∈ cpxForms b lo hi) (s : State) : Runs f.bytes f.instr s (f.readResult cmpX s) := by
  rw [cpxForms] at hf
  fin_cases hf <;> exact runs_of_readInstr rfl rfl

theorem cpyForms_runs (hf : f ∈ cpyForms b lo hi) (s : State) : Runs f.bytes f.instr s (f.readResult cmpY s) := by
  rw [cpyForms] at hf
  fin_cases hf <;> exact runs_of_readInstr rfl rfl

theorem ldaForms_runs (hf : f ∈ ldaForms b lo hi) (s : State) : Runs f.bytes f.instr s (f.readResult lda s) := by
  rw [ldaForms] at hf
  fin_cases hf <;> exact runs_of_readInstr rfl rfl

theorem ldxForms_runs (hf : f ∈ ldxForms b lo hi) (s : State) : Runs f.bytes f.instr s (f.readResult ldx s) := by
  rw [ldxForms] at hf
  fin_cases hf <;> exact runs_of_readInstr rfl rfl

theorem ldyForms_runs (hf : f ∈ ldyForms b lo hi) (s : State) : Runs f.bytes f.instr s (f.readResult ldy s) := by
  rw [ldyForms] at hf
  fin_cases hf <;> exact runs_of_readInstr rfl rfl

/-! ### The store instructions -/

theorem staForms_runs (hf : f ∈ staForms b lo hi) (s : State) : Runs f.bytes f.instr s (f.storeResult s.reg.a s) := by
  rw [staForms] at hf
  fin_cases hf <;> exact runs_of_storeInstr rfl rfl

theorem stxForms_runs (hf : f ∈ stxForms b lo hi) (s : State) : Runs f.bytes f.instr s (f.storeResult s.reg.x s) := by
  rw [stxForms] at hf
  fin_cases hf <;> exact runs_of_storeInstr rfl rfl

theorem styForms_runs (hf : f ∈ styForms b lo hi) (s : State) : Runs f.bytes f.instr s (f.storeResult s.reg.y s) := by
  rw [styForms] at hf
  fin_cases hf <;> exact runs_of_storeInstr rfl rfl

/-! ### The read-modify-write instructions -/

theorem incForms_runs (hf : f ∈ incForms b lo hi) (s : State) : Runs f.bytes f.instr s (f.modifyResult inc s) := by
  rw [incForms] at hf
  fin_cases hf <;> exact runs_of_rmwInstr rfl rfl

theorem decForms_runs (hf : f ∈ decForms b lo hi) (s : State) : Runs f.bytes f.instr s (f.modifyResult dec s) := by
  rw [decForms] at hf
  fin_cases hf <;> exact runs_of_rmwInstr rfl rfl

theorem aslForms_runs (hf : f ∈ aslForms b lo hi) (s : State) : Runs f.bytes f.instr s (f.modifyResult asl s) := by
  rw [aslForms] at hf
  fin_cases hf <;> exact runs_of_rmwInstr rfl rfl

theorem lsrForms_runs (hf : f ∈ lsrForms b lo hi) (s : State) : Runs f.bytes f.instr s (f.modifyResult lsr s) := by
  rw [lsrForms] at hf
  fin_cases hf <;> exact runs_of_rmwInstr rfl rfl

theorem rolForms_runs (hf : f ∈ rolForms b lo hi) (s : State) : Runs f.bytes f.instr s (f.modifyResult rol s) := by
  rw [rolForms] at hf
  fin_cases hf <;> exact runs_of_rmwInstr rfl rfl

theorem rorForms_runs (hf : f ∈ rorForms b lo hi) (s : State) : Runs f.bytes f.instr s (f.modifyResult ror s) := by
  rw [rorForms] at hf
  fin_cases hf <;> exact runs_of_rmwInstr rfl rfl

end

end Sys2Proof.Machine
end

section
/-! The frames of the read instructions and of the instructions that store (R115): what of the machine is as before. -/

namespace Sys2Proof.Machine

/-! ### The reads of a form -/

/-- Whether the operand is that of JMP indirect, the one mode whose pointer may lie anywhere (R110). -/
def Operand.isJumpPointer : Operand → Bool
  | .ind _ => true
  | _ => false

/-- R111, R112: but for JMP indirect a mode reads the zero page at most, which has no side effect. -/
theorem resolve_state_eq {o : Operand} (ho : o.isJumpPointer = false) (s : State) : (resolve o s).state = s := by
  cases o with
  | ind _ => exact nomatch ho
  | izx b => rw [resolve_izx]
  | izy b => rw [resolve_izy]; rfl
  | _ => rfl

theorem fetchOperand_state_eq (o : Operand) {r : Resolved} (hr : r.state.isDevice r.ea = false) :
    (r.fetchOperand o).2 = r.state := by
  cases o with
  | imm _ => rfl
  | _ => exact congrArg Prod.snd (r.state.read8_memory r.ea hr)

theorem Form.operandRead_keepsCpu (f : Form) (s : State) : KeepsCpu s (f.operandRead s).2 :=
  (resolve_keepsCpu f.operand s).trans (fetchOperand_keepsCpu f.operand _)

theorem Form.operandRead_keepsMemory (f : Form) (s : State) : KeepsCpuMemory s (f.operandRead s).2 :=
  (resolve_keepsMemory f.operand s).trans (fetchOperand_keepsMemory f.operand _)

/-- R56: an operand in memory is read without side effect. -/
theorem Form.operandRead_state_eq {f : Form} {s : State} (hf : f.operand.isJumpPointer = false)
    (hs : s.isDevice (resolve f.operand s).ea = false) : (f.operandRead s).2 = s := by
  have hstate := resolve_state_eq hf s
  rw [Form.operandRead, fetchOperand_state_eq _ (by rw [hstate]; exact hs), hstate]

theorem readForms_isJumpPointer {b lo hi : Byte} {f : Form} (hf : f ∈ readForms b lo hi) :
    f.operand.isJumpPointer = false := by
  have hall : (readForms b lo hi).all (fun f => !f.operand.isJumpPointer) = true := by
    simp only [readForms, List.all_append, Bool.and_eq_true]
    and_intros <;> rfl
  simpa using List.all_eq_true.1 hall f hf

/-! ### The operations of the read instructions -/

/-- All is as before but A, X, Y, the flags N, V, Z and C, and the cycle count. -/
structure KeepsAllButData (s t : State) : Prop where
  bus : t.bus = s.bus
  intc : t.intc = s.intc
  params : t.params = s.params
  diag : t.diag = s.diag
  stackPointer : t.reg.s = s.reg.s
  pc : t.reg.pc = s.reg.pc
  interruptDisable : t.reg.p.i = s.reg.p.i
  decimal : t.reg.p.d = s.reg.p.d

/-- R121, R123: ADC writes neither I nor D, in either mode. -/
theorem adcResult_keepsFlags (decimalMode : Bool) (a m : Byte) (p : Flags) :
    (adcResult decimalMode a m p).2.i = p.i ∧ (adcResult decimalMode a m p).2.d = p.d := by
  unfold adcResult
  split <;> exact ⟨rfl, rfl⟩

/-- R122, R124: SBC writes neither I nor D, in either mode. -/
theorem sbcResult_keepsFlags (decimalMode : Bool) (a m : Byte) (p : Flags) :
    (sbcResult decimalMode a m p).2.i = p.i ∧ (sbcResult decimalMode a m p).2.d = p.d := by
  unfold sbcResult
  split <;> exact ⟨rfl, rfl⟩

theorem adc_keeps (m : Byte) (s : State) : KeepsAllButData s (adc m s) := by
  obtain ⟨hi, hd⟩ := adcResult_keepsFlags s.params.decimalMode s.reg.a m s.reg.p
  exact ⟨rfl, rfl, rfl, rfl, rfl, rfl, hi, hd⟩

theorem sbc_keeps (m : Byte) (s : State) : KeepsAllButData s (sbc m s) := by
  obtain ⟨hi, hd⟩ := sbcResult_keepsFlags s.params.decimalMode s.reg.a m s.reg.p
  exact ⟨rfl, rfl, rfl, rfl, rfl, rfl, hi, hd⟩

/-- R115: every read form runs an operation on registers and flags only. -/
theorem readForms_runs {b lo hi : Byte} {f : Form} (hf : f ∈ readForms b lo hi) (s : State) :
    ∃ op : Byte → State → State, (∀ m u, KeepsAllButData u (op m u)) ∧ Runs f.bytes f.instr s (f.readResult op s) := by
  simp only [readForms, List.mem_append, or_assoc] at hf
  rcases hf with h | h | h | h | h | h | h | h | h | h | h | h
  · exact ⟨adc, adc_keeps, adcForms_runs h s⟩
  · exact ⟨sbc, sbc_keeps, sbcForms_runs h s⟩
  · exact ⟨andA, fun _ _ => ⟨rfl, rfl, rfl, rfl, rfl, rfl, rfl, rfl⟩, andForms_runs h s⟩
  · exact ⟨oraA, fun _ _ => ⟨rfl, rfl, rfl, rfl, rfl, rfl, rfl, rfl⟩, oraForms_runs h s⟩
  · exact ⟨eorA, fun _ _ => ⟨rfl, rfl, rfl, rfl, rfl, rfl, rfl, rfl⟩, eorForms_runs h s⟩
  · exact ⟨bitA, fun _ _ => ⟨rfl, rfl, rfl, rfl, rfl, rfl, rfl, rfl⟩, bitForms_runs h s⟩
  · exact ⟨cmpA, fun _ _ => ⟨rfl, rfl, rfl, rfl, rfl, rfl, rfl, rfl⟩, cmpForms_runs h s⟩
  · exact ⟨cmpX, fun _ _ => ⟨rfl, rfl, rfl, rfl, rfl, rfl, rfl, rfl⟩, cpxForms_runs h s⟩
  · exact ⟨cmpY, fun _ _ => ⟨rfl, rfl, rfl, rfl, rfl, rfl, rfl, rfl⟩, cpyForms_runs h s⟩
  · exact ⟨lda, fun _ _ => ⟨rfl, rfl, rfl, rfl, rfl, rfl, rfl, rfl⟩, ldaForms_runs h s⟩
  · exact ⟨ldx, fun _ _ => ⟨rfl, rfl, rfl, rfl, rfl, rfl, rfl, rfl⟩, ldxForms_runs h s⟩
  · exact ⟨ldy, fun _ _ => ⟨rfl, rfl, rfl, rfl, rfl, rfl, rfl, rfl⟩, ldyForms_runs h s⟩

theorem Form.readResult_keeps (f : Form) {op : Byte → State → State} (hop : ∀ m u, KeepsAllButData u (op m u)) (s : State) :
    KeepsAllButData (f.operandRead s).2 (f.readResult op s) := by
  obtain ⟨hbus, hintc, hparams, hdiag, hs, hpc, hi, hd⟩ := hop (f.operandRead s).1 (f.operandRead s).2
  exact ⟨hbus, hintc, hparams, hdiag, hs, hpc, hi, hd⟩

/-- Settles O33: the reads keep the CPU and what it reads, and all of the state where they are of memory; the operation then
keeps all but the data registers and flags. -/
theorem readInstructionsStoreNothing : Obligations.ReadInstructionsStoreNothing := by
  intro b lo hi s f hf
  obtain ⟨op, hop, hrun⟩ := readForms_runs hf s
  obtain ⟨hbus, hintc, hparams, hdiag, hsp, hpc, hi, hd⟩ := f.readResult_keeps hop s
  have cpu := f.operandRead_keepsCpu s
  have memory := (f.operandRead_keepsMemory s).trans (KeepsCpuMemory.of_bus hbus)
  rw [cpu.reg] at hsp hpc hi hd
  have params : (f.readResult op s).params = s.params := hparams.trans cpu.params
  refine ⟨f.readResult op s, hrun, memory.peek params, hsp, hpc, hi, hd, params, hdiag.trans cpu.diag, memory.prg, ?_,
    fun hdevice => ?_⟩
  · rw [hintc, cpu.nmiPending]
  · rw [hbus, hintc, Form.operandRead_state_eq (readForms_isJumpPointer hf) hdevice]
    exact ⟨rfl, rfl⟩

/-! ### One write (R245) -/

/-- Where no mapper register is written and no memory, the CPU reads what it read before. -/
theorem State.write8_keepsMemory {s : State} {a : Word} (hwritable : s.isWritable a = false)
    (hprg : region s.params a ≠ .prg) (v : Byte) : KeepsCpuMemory s (s.write8 a v) := by
  unfold State.isWritable at hwritable
  unfold State.write8
  cases hr : region s.params a with
  | device port reg => exact s.deviceWrite_keepsMemory port reg v
  | unmapped => exact KeepsCpuMemory.refl s
  | prg => exact absurd hr hprg
  | _ => rw [hr] at hwritable; exact nomatch hwritable

/-- R253: below the PRG windows no change of the mapper shows. -/
theorem KeepsMemories.peek {s t : State} (h : KeepsMemories s t) (hp : t.params = s.params) {a : Word}
    (ha : region s.params a ≠ .prg) : t.peek a = s.peek a := by
  simp only [State.peek, hp, h.ram, h.wram, h.flat]
  cases hr : region s.params a with
  | prg => exact absurd hr ha
  | _ => rfl

/-- A write stores at most one byte, by where its address leads: writable memory, a mapper register, or neither. -/
theorem State.write8_storesOnly (s : State) (ea : Word) (v : Byte) : StoresOnly s (s.write8 ea v) ea := by
  refine ⟨fun a hcell hprg => ?_, (s.write8_rom ea v).1, s.write8_params ea v, (s.write8_keepsCpu ea v).nmiPending⟩
  cases hwritable : s.isWritable ea with
  | true => exact s.peek_write8_other ea a v hwritable hcell
  | false =>
    by_cases hea : region s.params ea = .prg
    · have hmapper : s.write8 ea v = s.mapperWrite ea v := by simp only [State.write8, hea]
      obtain ⟨hcpu, hmem⟩ := s.mapperWrite_keeps ea v
      rw [hmapper]
      exact hmem.peek hcpu.params (hprg.resolve_left fun h => h hea)
    · exact (State.write8_keepsMemory hwritable hea v).peek (s.write8_params ea v) a

/-- What comes before a store, if it keeps what the CPU reads, does not show in its frame. -/
theorem StoresOnly.after {s u t : State} {ea : Word} (h : StoresOnly u t ea) (memory : KeepsCpuMemory s u)
    (hparams : u.params = s.params) (hnmi : u.intc.nmiPending = s.intc.nmiPending) : StoresOnly s t ea := by
  obtain ⟨hpeek, hprg, hp, hn⟩ := h
  rw [hparams] at hpeek
  refine ⟨fun a hcell ha => ?_, hprg.trans memory.prg, hp.trans hparams, hn.trans hnmi⟩
  rw [hpeek a ((State.sameCell_congr hparams ea a).trans hcell) ha, memory.peek hparams]

/-- Nor does an update of registers and outputs after it. -/
theorem StoresOnly.congr {s t u : State} {ea : Word} (h : StoresOnly s t ea) (hbus : u.bus = t.bus)
    (hparams : u.params = t.params) (hintc : u.intc = t.intc) : StoresOnly s u ea := by
  obtain ⟨hpeek, hprg, hp, hn⟩ := h
  refine ⟨fun a hcell ha => ?_, ?_, hparams.trans hp, ?_⟩
  · rw [State.peek_congr hbus hparams, hpeek a hcell ha]
  · rw [hbus, hprg]
  · rw [hintc, hn]

/-! ### The store instructions -/

theorem Form.storeResult_storesOnly (f : Form) (v : Byte) (s : State) :
    StoresOnly s (f.storeResult v s) (resolve f.operand s).ea := by
  have cpu := resolve_keepsCpu f.operand s
  have stored := ((resolve f.operand s).state.write8_storesOnly (resolve f.operand s).ea v).after
    (resolve_keepsMemory f.operand s) cpu.params cpu.nmiPending
  exact stored.congr rfl rfl rfl

@[simp] theorem Form.storeResult_reg (f : Form) (v : Byte) (s : State) : (f.storeResult v s).reg = s.reg := by
  simp [Form.storeResult]

@[simp] theorem Form.storeResult_diag (f : Form) (v : Byte) (s : State) : (f.storeResult v s).diag = s.diag := by
  simp [Form.storeResult, (resolve_keepsCpu f.operand s).diag]

theorem storeForms_runs {b lo hi : Byte} {f : Form} (hf : f ∈ storeForms b lo hi) (s : State) :
    ∃ v, Runs f.bytes f.instr s (f.storeResult v s) := by
  simp only [storeForms, List.mem_append, or_assoc] at hf
  rcases hf with h | h | h
  · exact ⟨_, staForms_runs h s⟩
  · exact ⟨_, stxForms_runs h s⟩
  · exact ⟨_, styForms_runs h s⟩

/-! ### The read-modify-write instructions -/

/-- R130, R161 to R164: of the state, the operation changes at most the carry. -/
def WritesCarryOnly (op : Byte → State → Byte × State) : Prop :=
  ∀ m u, ∃ c, (op m u).2 = u.setP { u.reg.p with c := c }

/-- R130: the operation changes nothing of the state. -/
def WritesNothing (op : Byte → State → Byte × State) : Prop := ∀ m u, (op m u).2 = u

theorem WritesNothing.writesCarryOnly {op : Byte → State → Byte × State} (h : WritesNothing op) : WritesCarryOnly op :=
  fun m u => ⟨u.reg.p.c, h m u⟩

theorem inc_writesNothing : WritesNothing inc := fun _ _ => rfl
theorem dec_writesNothing : WritesNothing dec := fun _ _ => rfl

theorem incDecForms_runs {b lo hi : Byte} {f : Form} (hf : f ∈ incForms b lo hi ++ decForms b lo hi) (s : State) :
    ∃ op, WritesNothing op ∧ Runs f.bytes f.instr s (f.modifyResult op s) := by
  rcases List.mem_append.1 hf with h | h
  · exact ⟨inc, inc_writesNothing, incForms_runs h s⟩
  · exact ⟨dec, dec_writesNothing, decForms_runs h s⟩

theorem modifyForms_runs {b lo hi : Byte} {f : Form} (hf : f ∈ modifyForms b lo hi) (s : State) :
    ∃ op, WritesCarryOnly op ∧ Runs f.bytes f.instr s (f.modifyResult op s) := by
  simp only [modifyForms, List.mem_append, or_assoc] at hf
  rcases hf with h | h | h | h | h | h
  · exact ⟨inc, inc_writesNothing.writesCarryOnly, incForms_runs h s⟩
  · exact ⟨dec, dec_writesNothing.writesCarryOnly, decForms_runs h s⟩
  · exact ⟨asl, fun _ _ => ⟨_, rfl⟩, aslForms_runs h s⟩
  · exact ⟨lsr, fun _ _ => ⟨_, rfl⟩, lsrForms_runs h s⟩
  · exact ⟨rol, fun _ _ => ⟨_, rfl⟩, rolForms_runs h s⟩
  · exact ⟨ror, fun _ _ => ⟨_, rfl⟩, rorForms_runs h s⟩

section
variable {op : Byte → State → Byte × State}

/-- R131, R160: the state before the write is that after the one read, with at most a new carry. -/
theorem Form.modification_eq (f : Form) (hop : WritesCarryOnly op) (s : State) :
    ∃ c, (f.modification op s).2 =
      ((resolve f.operand s).state.read8 (resolve f.operand s).ea).2.setP { s.reg.p with c := c } := by
  obtain ⟨c, hc⟩ := hop ((resolve f.operand s).state.read8 (resolve f.operand s).ea).1
    ((resolve f.operand s).state.read8 (resolve f.operand s).ea).2
  exact ⟨c, by simpa [Form.modification] using hc⟩

theorem Form.modifyResult_storesOnly (f : Form) (hop : WritesCarryOnly op) (s : State) :
    StoresOnly s (f.modifyResult op s) (resolve f.operand s).ea := by
  obtain ⟨c, hc⟩ := f.modification_eq hop s
  have cpu := (resolve_keepsCpu f.operand s).trans (State.read8_keepsCpu _ (resolve f.operand s).ea)
  have memory := (resolve_keepsMemory f.operand s).trans (State.read8_keepsMemory _ (resolve f.operand s).ea)
  have stored := ((f.modification op s).2.write8_storesOnly (resolve f.operand s).ea (f.modification op s).1).after
    (memory.trans (KeepsCpuMemory.of_bus (by rw [hc]; rfl))) (by rw [hc]; exact cpu.params)
    (by rw [hc]; exact cpu.nmiPending)
  exact stored.congr rfl rfl rfl

theorem Form.modifyResult_diag (f : Form) (hop : WritesCarryOnly op) (s : State) : (f.modifyResult op s).diag = s.diag := by
  obtain ⟨c, hc⟩ := f.modification_eq hop s
  simp [Form.modifyResult, hc, (resolve_keepsCpu f.operand s).diag]

/-- R130, R160: of the registers C, Z and N change at most. -/
theorem Form.modifyResult_reg (f : Form) (hop : WritesCarryOnly op) (s : State) :
    ∃ c, (f.modifyResult op s).reg =
      { s.reg with p := Flags.setZN { s.reg.p with c := c } (f.modification op s).1 } := by
  obtain ⟨c, hc⟩ := f.modification_eq hop s
  exact ⟨c, by simp [Form.modifyResult, hc]⟩

theorem Form.modifyResult_carry (f : Form) (hop : WritesNothing op) (s : State) :
    (f.modifyResult op s).reg.p.c = s.reg.p.c := by
  simp [Form.modifyResult, Form.modification, hop _ _, Flags.setZN]

end

/-- Settles O34: the frame of each class; the clauses on one class only then hold of the one state that the form runs to. -/
theorem storeInstructionsStoreOneByte : Obligations.StoreInstructionsStoreOneByte := by
  intro b lo hi s f hf
  have frame : ∃ t, Runs f.bytes f.instr s t ∧ StoresOnly s t (resolve f.operand s).ea ∧ t.diag = s.diag ∧
      t.reg = { s.reg with p := { s.reg.p with c := t.reg.p.c, z := t.reg.p.z, n := t.reg.p.n } } := by
    rcases List.mem_append.1 hf with hstore | hmodify
    · obtain ⟨v, hrun⟩ := storeForms_runs hstore s
      exact ⟨_, hrun, f.storeResult_storesOnly v s, f.storeResult_diag v s, by rw [f.storeResult_reg]⟩
    · obtain ⟨op, hop, hrun⟩ := modifyForms_runs hmodify s
      obtain ⟨c, hreg⟩ := f.modifyResult_reg hop s
      exact ⟨_, hrun, f.modifyResult_storesOnly hop s, f.modifyResult_diag hop s, by rw [hreg]; rfl⟩
  obtain ⟨t, hrun, hstores, hdiag, hreg⟩ := frame
  refine ⟨t, hrun, hstores, hdiag, fun hstore => ?_, hreg, fun hincDec => ?_⟩
  · obtain ⟨v, hrun'⟩ := storeForms_runs hstore s
    rw [hrun.unique hrun', f.storeResult_reg]
  · obtain ⟨op, hop, hrun'⟩ := incDecForms_runs hincDec s
    rw [hrun.unique hrun', f.modifyResult_carry hop]

end Sys2Proof.Machine
end

section
/-! ADC and SBC (spec/41_arithmetic.md) as operations on numbers: what the binary and the decimal rule make of A, of the
operand and of the carry. -/

namespace Sys2Proof.Machine

/-! ### Flags and bytes as numbers -/

theorem toNat_eq_ite_of_iff {c : Bool} {P : Prop} [Decidable P] (h : c = true ↔ P) : c.toNat = if P then 1 else 0 := by
  cases c with
  | true => rw [if_pos (h.1 rfl), Bool.toNat_true]
  | false => rw [if_neg fun hP => Bool.false_ne_true (h.2 hP), Bool.toNat_false]

theorem getLsbD_seven_eq (v : Byte) : v.getLsbD 7 = decide (128 ≤ v.toNat) := v.getLsbD_last

theorem toInt_eq_ite (v : Byte) : v.toInt = if 128 ≤ v.toNat then (v.toNat : Int) - 256 else v.toNat := by
  rw [BitVec.toInt_eq_toNat_cond]
  split <;> split <;> omega

theorem toInt_complement (v : Byte) : (~~~v).toInt = -1 - v.toInt := by
  have hv := v.isLt
  rw [toInt_eq_ite, toInt_eq_ite, BitVec.toNat_not]
  split <;> split <;> omega

@[simp] theorem Flags.setZN_z_iff (p : Flags) (v : Byte) : (p.setZN v).z = true ↔ v = 0 := beq_iff_eq

@[simp] theorem Flags.setZN_n_iff (p : Flags) (v : Byte) : (p.setZN v).n = true ↔ 128 ≤ v.toNat := by
  rw [Flags.setZN, getLsbD_seven_eq, decide_eq_true_iff]

/-! ### The binary rules (R121, R122) -/

section
variable (a m : Byte) (p : Flags)

theorem sum9_toNat (c : Bool) : (sum9 a m c).toNat = a.toNat + m.toNat + c.toNat := by
  have ha := a.isLt
  have hm := m.isLt
  have hc := c.toNat_lt
  simp only [sum9, BitVec.toNat_add, BitVec.toNat_setWidth, BitVec.toNat_ofBool]
  omega

theorem sum9_byte_toNat (c : Bool) : ((sum9 a m c).setWidth 8).toNat = (a.toNat + m.toNat + c.toNat) % 256 := by
  rw [BitVec.toNat_setWidth, sum9_toNat]

theorem sum9_bit8 (c : Bool) : (sum9 a m c).getLsbD 8 = decide (256 ≤ a.toNat + m.toNat + c.toNat) := by
  rw [← sum9_toNat]
  exact (sum9 a m c).getLsbD_last

theorem adcBinary_fst_toNat : (adcBinary a m p).1.toNat = (a.toNat + m.toNat + p.c.toNat) % 256 := sum9_byte_toNat a m p.c

/-- R121: carry out of the 9-bit sum. -/
theorem adcBinary_c_iff : (adcBinary a m p).2.c = true ↔ 256 ≤ a.toNat + m.toNat + p.c.toNat := by
  rw [show (adcBinary a m p).2.c = (sum9 a m p.c).getLsbD 8 from rfl, sum9_bit8, decide_eq_true_iff]

theorem adcBinary_z_iff : (adcBinary a m p).2.z = true ↔ (adcBinary a m p).1 = 0 := Flags.setZN_z_iff _ _

theorem adcBinary_n_iff : (adcBinary a m p).2.n = true ↔ 128 ≤ (adcBinary a m p).1.toNat := Flags.setZN_n_iff _ _

/-- R121: A and C hold the exact sum. -/
theorem adcBinary_sum :
    (adcBinary a m p).1.toNat + 256 * (adcBinary a m p).2.c.toNat = a.toNat + m.toNat + p.c.toNat := by
  have ha := a.isLt
  have hm := m.isLt
  have hp := p.c.toNat_lt
  rw [adcBinary_fst_toNat, toNat_eq_ite_of_iff (adcBinary_c_iff a m p)]
  split <;> omega

/-- R121: the operands have one sign and the result has the other. -/
theorem adcBinary_v_iff :
    (adcBinary a m p).2.v = true ↔
      (128 ≤ a.toNat ↔ 128 ≤ m.toNat) ∧ ¬(128 ≤ (adcBinary a m p).1.toNat ↔ 128 ≤ a.toNat) := by
  have hbit : (sum9 a m p.c).getLsbD 7 = (adcBinary a m p).1.getLsbD 7 := by
    rw [adcBinary, BitVec.getLsbD_setWidth]
    rfl
  rw [show (adcBinary a m p).2.v =
    (a.getLsbD 7 == m.getLsbD 7 && (sum9 a m p.c).getLsbD 7 != a.getLsbD 7) from rfl, hbit]
  simp only [getLsbD_seven_eq, Bool.and_eq_true, beq_iff_eq, bne_iff_ne, ne_eq, decide_eq_decide]

/-- R121: V is signed overflow. -/
theorem adcBinary_overflow :
    (adcBinary a m p).2.v = true ↔
      a.toInt + m.toInt + (p.c.toNat : Int) < -128 ∨ 127 < a.toInt + m.toInt + (p.c.toNat : Int) := by
  have ha := a.isLt
  have hm := m.isLt
  have hp := p.c.toNat_lt
  rw [adcBinary_v_iff, adcBinary_fst_toNat, toInt_eq_ite, toInt_eq_ite]
  split <;> split <;> omega

/-- R122: a subtraction is the addition of the complement. -/
theorem sbcBinary_eq_adcBinary : sbcBinary a m p = adcBinary a (~~~m) p := by
  have hxor : m ^^^ 0xFF = ~~~m := BitVec.xor_allOnes
  have hbit : (~~~m).getLsbD 7 = !m.getLsbD 7 := by simp
  have hsign : (a.getLsbD 7 != m.getLsbD 7) = (a.getLsbD 7 == !m.getLsbD 7) := by
    cases a.getLsbD 7 <;> cases m.getLsbD 7 <;> rfl
  rw [sbcBinary, adcBinary, hxor, hbit, hsign]

/-- R122: A and C hold the exact difference, C as the inverted borrow. -/
theorem sbcBinary_difference :
    ((sbcBinary a m p).1.toNat : Int) + 256 * ((sbcBinary a m p).2.c.toNat : Int) =
      (a.toNat : Int) - m.toNat - (1 - (p.c.toNat : Int)) + 256 := by
  have hsum := adcBinary_sum a (~~~m) p
  have hm := m.isLt
  rw [BitVec.toNat_not] at hsum
  rw [sbcBinary_eq_adcBinary]
  omega

/-- R122: V is signed overflow. -/
theorem sbcBinary_overflow :
    (sbcBinary a m p).2.v = true ↔
      a.toInt - m.toInt - (1 - (p.c.toNat : Int)) < -128 ∨ 127 < a.toInt - m.toInt - (1 - (p.c.toNat : Int)) := by
  rw [sbcBinary_eq_adcBinary, adcBinary_overflow, toInt_complement]
  omega

/-- R122: carry out, where nothing is borrowed. -/
theorem sbcBinary_c_iff :
    (sbcBinary a m p).2.c = true ↔ 0 ≤ (a.toNat : Int) - m.toNat - (1 - (p.c.toNat : Int)) := by
  have hm := m.isLt
  rw [sbcBinary_eq_adcBinary, adcBinary_c_iff, BitVec.toNat_not]
  omega

theorem sbcBinary_fst_toNat :
    ((sbcBinary a m p).1.toNat : Int) = ((a.toNat : Int) - m.toNat - (1 - (p.c.toNat : Int))) % 256 := by
  have hdiff := sbcBinary_difference a m p
  have hr := (sbcBinary a m p).1.isLt
  omega

theorem sbcBinary_z_iff : (sbcBinary a m p).2.z = true ↔ (sbcBinary a m p).1 = 0 := Flags.setZN_z_iff _ _

theorem sbcBinary_n_iff : (sbcBinary a m p).2.n = true ↔ 128 ≤ (sbcBinary a m p).1.toNat := Flags.setZN_n_iff _ _

theorem sbcBinary_z_iff_difference :
    (sbcBinary a m p).2.z = true ↔ ((a.toNat : Int) - m.toNat - (1 - (p.c.toNat : Int))) % 256 = 0 := by
  rw [sbcBinary_z_iff, ← sbcBinary_fst_toNat, Int.natCast_eq_zero, ← BitVec.toNat_inj]
  rfl

theorem sbcBinary_n_iff_difference :
    (sbcBinary a m p).2.n = true ↔ 128 ≤ ((a.toNat : Int) - m.toNat - (1 - (p.c.toNat : Int))) % 256 := by
  rw [sbcBinary_n_iff, ← sbcBinary_fst_toNat]
  omega

/-! ### The decimal rules (R123, R124) -/

theorem highPart_eq : highPart a = a.toNat / 16 * 16 := by
  have hmask : a &&& (0xF0 : Byte) = (a >>> 4) <<< 4 := by
    ext i hi
    interval_cases i <;> simp
  have ha := a.isLt
  rw [highPart, hmask, BitVec.toNat_shiftLeft, BitVec.toNat_ushiftRight, Nat.shiftRight_eq_div_pow, Nat.shiftLeft_eq]
  omega

theorem adcLowDigit_eq (c : Bool) :
    adcLowDigit a m c =
      if 10 ≤ a.toNat % 16 + m.toNat % 16 + c.toNat then (a.toNat % 16 + m.toNat % 16 + c.toNat + 6) % 16 + 16
      else a.toNat % 16 + m.toNat % 16 + c.toNat := rfl

theorem adcIntermediate_eq (c : Bool) :
    adcIntermediate a m c = a.toNat / 16 * 16 + m.toNat / 16 * 16 + adcLowDigit a m c := by
  rw [adcIntermediate, highPart_eq, highPart_eq]

/-- R123: the high digit is corrected from 0xA0 on. -/
theorem adcDecimal_fst_toNat :
    (adcDecimal a m p).1.toNat =
      (if 160 ≤ adcIntermediate a m p.c then adcIntermediate a m p.c + 96 else adcIntermediate a m p.c) % 256 :=
  BitVec.toNat_ofNat _ _

/-- R123: the corrected intermediate reaches 0x100 exactly where it was corrected. -/
theorem adcDecimal_c_iff : (adcDecimal a m p).2.c = true ↔ 160 ≤ adcIntermediate a m p.c := by
  rw [adcDecimal, decide_eq_true_iff]
  split <;> omega

theorem adcDecimal_n_iff : (adcDecimal a m p).2.n = true ↔ 128 ≤ adcIntermediate a m p.c % 256 := by
  rw [adcDecimal, Nat.testBit_eq_decide_div_mod_eq, decide_eq_true_iff]
  omega

theorem adcDecimal_v_iff :
    (adcDecimal a m p).2.v = true ↔ adcSignedIntermediate a m p.c < -128 ∨ 127 < adcSignedIntermediate a m p.c := by
  rw [adcDecimal, Bool.or_eq_true, decide_eq_true_iff, decide_eq_true_iff]

/-- R123: Z is that of the binary sum. -/
theorem adcDecimal_z_iff : (adcDecimal a m p).2.z = true ↔ (a.toNat + m.toNat + p.c.toNat) % 256 = 0 := by
  rw [← sum9_byte_toNat, adcDecimal, beq_iff_eq, ← BitVec.toNat_inj]
  rfl

theorem sbcLowDigit_eq (c : Bool) :
    sbcLowDigit a m c =
      if ((a.toNat % 16 : Nat) : Int) - (m.toNat % 16 : Nat) + c.toNat - 1 < 0
      then (((a.toNat % 16 : Nat) : Int) - (m.toNat % 16 : Nat) + c.toNat - 1 - 6) % 16 - 16
      else ((a.toNat % 16 : Nat) : Int) - (m.toNat % 16 : Nat) + c.toNat - 1 := rfl

/-- R124: the high digit is corrected below zero. -/
theorem sbcDecimal_fst_toNat {t : Int}
    (ht : t = ((a.toNat / 16 * 16 : Nat) : Int) - (m.toNat / 16 * 16 : Nat) + sbcLowDigit a m p.c) :
    ((sbcDecimal a m p).1.toNat : Int) = (if t < 0 then t - 96 else t) % 256 := by
  rw [← highPart_eq, ← highPart_eq] at ht
  rw [ht, sbcDecimal, BitVec.toNat_ofInt]
  exact Int.toNat_of_nonneg (Int.emod_nonneg _ (by decide))

/-- R124: the flags are those of the binary difference. -/
theorem sbcDecimal_snd : (sbcDecimal a m p).2 = (sbcBinary a m p).2 := rfl

/-! ### Decimal digits -/

section
variable {a m} (ha0 : a.toNat % 16 < 10) (ha1 : a.toNat / 16 < 10) (hm0 : m.toNat % 16 < 10) (hm1 : m.toNat / 16 < 10)
include ha0 ha1 hm0 hm1

/-- R123: on digits below ten each correction carries one into the next digit. -/
theorem adcDecimal_digits :
    (adcDecimal a m p).1.toNat % 16 < 10 ∧ (adcDecimal a m p).1.toNat / 16 < 10 ∧
      (adcDecimal a m p).1.toNat / 16 * 10 + (adcDecimal a m p).1.toNat % 16 + 100 * (adcDecimal a m p).2.c.toNat =
        a.toNat / 16 * 10 + a.toNat % 16 + (m.toNat / 16 * 10 + m.toNat % 16) + p.c.toNat := by
  have hp := p.c.toNat_lt
  have hlow := adcLowDigit_eq a m p.c
  rw [adcDecimal_fst_toNat, toNat_eq_ite_of_iff (adcDecimal_c_iff a m p), adcIntermediate_eq]
  generalize adcLowDigit a m p.c = al at *
  split at hlow <;> split <;> omega

/-- R124: on digits below ten each correction borrows one from the next digit, and the high digit borrows exactly where the
binary difference does. -/
theorem sbcDecimal_digits :
    (sbcDecimal a m p).1.toNat % 16 < 10 ∧ (sbcDecimal a m p).1.toNat / 16 < 10 ∧
      (sbcDecimal a m p).1.toNat / 16 * 10 + (sbcDecimal a m p).1.toNat % 16 + (m.toNat / 16 * 10 + m.toNat % 16) + 1 +
          100 * (sbcDecimal a m p).2.c.toNat =
        a.toNat / 16 * 10 + a.toNat % 16 + 100 + p.c.toNat := by
  have hp := p.c.toNat_lt
  have hlow := sbcLowDigit_eq a m p.c
  have hr := sbcDecimal_fst_toNat a m p rfl
  rw [sbcDecimal_snd, toNat_eq_ite_of_iff (sbcBinary_c_iff a m p)]
  generalize sbcLowDigit a m p.c = al at *
  have hborrow : 0 ≤ (a.toNat : Int) - m.toNat - (1 - (p.c.toNat : Int)) ↔
      ¬((a.toNat / 16 * 16 : Nat) : Int) - (m.toNat / 16 * 16 : Nat) + al < 0 := by
    split at hlow <;> omega
  rw [if_congr hborrow rfl rfl]
  split at hr
  case isTrue hneg =>
    rw [if_neg (not_not_intro hneg)]
    split at hlow <;> omega
  case isFalse hnonneg =>
    rw [if_pos hnonneg]
    split at hlow <;> omega

end

end

/-! ### The next state of a form of ADC or SBC -/

section
variable {b lo hi : Byte} {f : Form} {s : State}

/-- The mode and the operand are read, then A and P are written. -/
def Form.resultState (f : Form) (s : State) (r : Byte × Flags) : State :=
  { (f.operandRead s).2 with reg := { s.reg with a := r.1, p := r.2 }, cycles := f.readCycles s }

theorem Form.readResult_eq_resultState (f : Form) (s : State) {op : Byte → State → State}
    {r : Bool → Byte → Byte → Flags → Byte × Flags}
    (hop : ∀ m u, op m u = (u.setA (r u.params.decimalMode u.reg.a m u.reg.p).1).setP
      (r u.params.decimalMode u.reg.a m u.reg.p).2) :
    f.readResult op s = f.resultState s (r s.params.decimalMode s.reg.a (f.operandRead s).1 s.reg.p) := by
  have cpu := f.operandRead_keepsCpu s
  rw [Form.readResult, hop, cpu.reg, cpu.params, Form.resultState, ← cpu.reg]
  rfl

theorem adcForms_runs_result (hf : f ∈ adcForms b lo hi) :
    Runs f.bytes f.instr s
      (f.resultState s (adcResult s.params.decimalMode s.reg.a (f.operandRead s).1 s.reg.p)) := by
  rw [← f.readResult_eq_resultState s (op := adc) fun _ _ => rfl]
  exact adcForms_runs hf s

theorem sbcForms_runs_result (hf : f ∈ sbcForms b lo hi) :
    Runs f.bytes f.instr s
      (f.resultState s (sbcResult s.params.decimalMode s.reg.a (f.operandRead s).1 s.reg.p)) := by
  rw [← f.readResult_eq_resultState s (op := sbc) fun _ _ => rfl]
  exact sbcForms_runs hf s

theorem adcForms_runs_binary (hf : f ∈ adcForms b lo hi) (hd : (s.reg.p.d && s.params.decimalMode) = false) :
    Runs f.bytes f.instr s (f.resultState s (adcBinary s.reg.a (f.operandRead s).1 s.reg.p)) := by
  have hrun := adcForms_runs_result (s := s) hf
  rwa [adcResult, hd] at hrun

theorem adcForms_runs_decimal (hf : f ∈ adcForms b lo hi) (hd : s.reg.p.d = true) (hmode : s.params.decimalMode = true) :
    Runs f.bytes f.instr s (f.resultState s (adcDecimal s.reg.a (f.operandRead s).1 s.reg.p)) := by
  have hrun := adcForms_runs_result (s := s) hf
  rwa [adcResult, hd, hmode] at hrun

theorem sbcForms_runs_binary (hf : f ∈ sbcForms b lo hi) (hd : (s.reg.p.d && s.params.decimalMode) = false) :
    Runs f.bytes f.instr s (f.resultState s (sbcBinary s.reg.a (f.operandRead s).1 s.reg.p)) := by
  have hrun := sbcForms_runs_result (s := s) hf
  rwa [sbcResult, hd] at hrun

theorem sbcForms_runs_decimal (hf : f ∈ sbcForms b lo hi) (hd : s.reg.p.d = true) (hmode : s.params.decimalMode = true) :
    Runs f.bytes f.instr s (f.resultState s (sbcDecimal s.reg.a (f.operandRead s).1 s.reg.p)) := by
  have hrun := sbcForms_runs_result (s := s) hf
  rwa [sbcResult, hd, hmode] at hrun

end

/-- Settles O19: every form runs the binary rule on its operand. -/
theorem adcIsTheExactSum : Obligations.AdcIsTheExactSum := by
  intro b lo hi s f hf hd
  exact ⟨_, _, adcForms_runs_binary hf hd, adcBinary_sum _ _ _, adcBinary_overflow _ _ _, adcBinary_z_iff _ _ _,
    adcBinary_n_iff _ _ _, rfl, rfl⟩

/-- Settles O20: every form runs the binary rule on its operand. -/
theorem sbcIsTheExactDifference : Obligations.SbcIsTheExactDifference := by
  intro b lo hi s f hf hd
  exact ⟨_, _, sbcForms_runs_binary hf hd, sbcBinary_difference _ _ _, sbcBinary_overflow _ _ _, sbcBinary_z_iff _ _ _,
    sbcBinary_n_iff _ _ _, rfl, rfl⟩

/-- Settles O21: `al`, `t` and `ts` are the model's low digit and intermediates. -/
theorem adcDecimalCorrectsDigits : Obligations.AdcDecimalCorrectsDigits := by
  intro b lo hi s f al t ts hf hd hmode hal ht hts
  rw [← adcLowDigit_eq] at hal
  subst hal
  rw [← adcIntermediate_eq] at ht
  rw [← adcSignedIntermediate] at hts
  subst ht hts
  exact ⟨_, _, adcForms_runs_decimal hf hd hmode, adcDecimal_fst_toNat _ _ _, adcDecimal_c_iff _ _ _,
    adcDecimal_n_iff _ _ _, adcDecimal_v_iff _ _ _, adcDecimal_z_iff _ _ _, rfl, rfl⟩

/-- Settles O22: A is the corrected difference; the flags are those of the binary rule, read off its exact difference. -/
theorem sbcDecimalCorrectsDigits : Obligations.SbcDecimalCorrectsDigits := by
  intro b lo hi s f al t hf hd hmode hal ht
  rw [← sbcLowDigit_eq] at hal
  subst hal
  refine ⟨_, _, _, sbcForms_runs_decimal hf hd hmode, sbcDecimal_fst_toNat _ _ _ ht, rfl, ?_⟩
  rw [sbcDecimal_snd]
  exact ⟨sbcBinary_c_iff _ _ _, sbcBinary_z_iff_difference _ _ _, sbcBinary_n_iff_difference _ _ _,
    sbcBinary_overflow _ _ _, rfl, rfl⟩

/-- Settles O23: the digit corrections of O21 and O22, on digits below ten. -/
theorem decimalModeCountsInTens : Obligations.DecimalModeCountsInTens := by
  intro s m hd hmode ha0 ha1 hm0 hm1
  have hadc : (⟨[0x69, m], .adcImm m, .imm m, 2, false⟩ : Form) ∈ adcForms m 0 0 := List.mem_cons_self
  have hsbc : (⟨[0xE9, m], .sbcImm m, .imm m, 2, false⟩ : Form) ∈ sbcForms m 0 0 := List.mem_cons_self
  exact ⟨⟨_, (adcForms_runs_decimal hadc hd hmode).2, adcDecimal_digits s.reg.p ha0 ha1 hm0 hm1⟩,
    ⟨_, (sbcForms_runs_decimal hsbc hd hmode).2, sbcDecimal_digits s.reg.p ha0 ha1 hm0 hm1⟩⟩

end Sys2Proof.Machine
end

section
/-! INC and DEC of memory (spec/42_incdec.md), and the instructions without operand that write registers only: the increments
and decrements of X and Y, and the transfers (spec/46_load_store_transfer.md). -/

namespace Sys2Proof.Machine

/-- R170, with N as a bound. -/
theorem Flags.setZN_eq (p : Flags) (v : Byte) : p.setZN v = { p with z := v == 0, n := decide (128 ≤ v.toNat) } := by
  rw [Flags.setZN, getLsbD_seven_eq]

/-! ### The next state of a read-modify-write form -/

section
variable {f : Form} {s u : State} {ea : Word} {m : Byte}

/-- Neither the mode nor the read of a byte writes a register. -/
theorem Form.reg_of_read (hread : (m, u) = (resolve f.operand s).state.read8 ea) : u.reg = s.reg := by
  have hu : u = ((resolve f.operand s).state.read8 ea).2 := congrArg Prod.snd hread
  rw [hu, ((resolve_keepsCpu f.operand s).trans (State.read8_keepsCpu _ ea)).reg]

/-- R62: nothing comes between the read and the write but the operation. -/
theorem Form.modification_of_read (op : Byte → State → Byte × State) (hea : ea = (resolve f.operand s).ea)
    (hread : (m, u) = (resolve f.operand s).state.read8 ea) : f.modification op s = op m u := by
  subst hea
  rw [Form.modification, ← hread]

/-- R115, class "read-modify-write": the write leaves the registers, so SetZN writes the flags that the operation left. -/
theorem Form.modifyResult_of_read (op : Byte → State → Byte × State) (hea : ea = (resolve f.operand s).ea)
    (hread : (m, u) = (resolve f.operand s).state.read8 ea) :
    f.modifyResult op s =
      { (op m u).2.write8 ea (op m u).1 with
        reg := { (op m u).2.reg with p := (op m u).2.reg.p.setZN (op m u).1 }, cycles := f.cycles } := by
  rw [Form.modifyResult, Form.modification_of_read op hea hread, ← hea]
  simp only [State.setZN, State.setP, State.took, State.write8_reg]

/-- R130: an operation that writes nothing: of the registers SetZN alone changes, Z and N. -/
theorem Form.modifyResult_of_writesNothing {op : Byte → State → Byte × State} (hop : WritesNothing op)
    (hea : ea = (resolve f.operand s).ea) (hread : (m, u) = (resolve f.operand s).state.read8 ea) :
    f.modifyResult op s =
      { u.write8 ea (op m u).1 with
        reg := { s.reg with p := { s.reg.p with z := (op m u).1 == 0, n := decide (128 ≤ (op m u).1.toNat) } },
        cycles := f.cycles } := by
  rw [Form.modifyResult_of_read op hea hread, hop m u, Form.reg_of_read hread, Flags.setZN_eq]

end

/-! ### INC and DEC -/

theorem byte_sub_one_toNat (m : Byte) : (m - 1).toNat = (m.toNat + 255) % 256 := by
  rw [Nat.add_comm]
  exact BitVec.toNat_sub m 1

/-- R84: no opcode of INC is one of DEC. -/
theorem incForms_disjoint_decForms (b lo hi : Byte) : List.Disjoint (incForms b lo hi) (decForms b lo hi) := by
  simp [incForms, decForms]

/-- Settles O25: the operation of INC or DEC writes nothing, and no form is of both. -/
theorem incDecMemoryWrapAndKeepCarry : Obligations.IncDecMemoryWrapAndKeepCarry := by
  intro b lo hi s f ea u m hf hea hread
  rcases hf with hinc | hdec
  · have hrun := incForms_runs hinc s
    rw [Form.modifyResult_of_writesNothing inc_writesNothing hea hread] at hrun
    exact ⟨m + 1, hrun, fun _ => BitVec.toNat_add m 1, fun hdec => (incForms_disjoint_decForms b lo hi hinc hdec).elim⟩
  · have hrun := decForms_runs hdec s
    rw [Form.modifyResult_of_writesNothing dec_writesNothing hea hread] at hrun
    exact ⟨m - 1, hrun, fun hinc => (incForms_disjoint_decForms b lo hi hinc hdec).elim, fun _ => byte_sub_one_toNat m⟩

/-! ### Instructions that write registers only (R101) -/

/-- An instruction without operand that makes the registers `r` and touches nothing else. -/
theorem runs_of_writesRegs {bytes : List Byte} {i : Instr} {s : State} {r : Regs} {c : Nat}
    (hbytes : decode bytes = .ok (i, [])) (hexec : exec i s = impliedInstr c (fun u => { u with reg := r }) s) :
    Runs bytes i s { s with reg := r, cycles := c } :=
  ⟨hbytes, hexec.trans (impliedInstr_eq c _ s)⟩

/-- Settles O26: the given flags are SetZN's; each of the ten instructions writes registers only. -/
theorem registerIncrementsAndTransfers : Obligations.RegisterIncrementsAndTransfers := by
  intro s p hp
  obtain rfl : p = s.reg.p.setZN := funext fun v => (hp v).trans (s.reg.p.setZN_eq v).symm
  refine ⟨?inx, ?iny, ?dex, ?dey, ?tax, ?tay, ?txa, ?tya, ?tsx, ?txs⟩ <;>
    exact runs_of_writesRegs rfl rfl

end Sys2Proof.Machine
end

section
/-! AND, ORA, EOR and BIT (spec/43_logical.md): read instructions whose operation writes registers only. -/

namespace Sys2Proof.Machine

/-! ### The next state of a read form that writes registers only -/

/-- R115, class "read": the reads keep the registers, so the operation starts from those of the state before. -/
theorem Form.readResult_of_writesRegs (f : Form) {op : Byte → State → State} {r : Byte → Regs → Regs}
    (hop : ∀ m u, op m u = { u with reg := r m u.reg }) (s : State) :
    f.readResult op s =
      { (f.operandRead s).2 with reg := r (f.operandRead s).1 s.reg, cycles := f.readCycles s } := by
  rw [Form.readResult, hop, (f.operandRead_keepsCpu s).reg]
  rfl

/-! ### AND, ORA and EOR (R140 to R143) -/

/-- R170: A takes a value, and Z and N follow it, N as a bound. -/
def Regs.loadResult (r : Regs) (a : Byte) : Regs :=
  { r with a := a, p := { r.p with z := a == 0, n := decide (128 ≤ a.toNat) } }

theorem loadA_eq (v : Byte) (s : State) : loadA v s = { s with reg := s.reg.loadResult v } := by
  rw [Regs.loadResult, ← Flags.setZN_eq]
  rfl

/-- R140: the next state of a read form that loads A with `r` of A and of its operand. -/
theorem Form.readResult_of_loadA (f : Form) {op : Byte → State → State} (r : Byte → Byte → Byte)
    (hop : ∀ m u, op m u = loadA (r u.reg.a m) u) (s : State) :
    f.readResult op s =
      { (f.operandRead s).2 with
        reg := s.reg.loadResult (r s.reg.a (f.operandRead s).1), cycles := f.readCycles s } :=
  f.readResult_of_writesRegs (r := fun m g => g.loadResult (r g.a m)) (fun m u => (hop m u).trans (loadA_eq _ u)) s

/-- Settles O27: each of the three operations loads A with its result. -/
theorem logicalResultsAndFlags : Obligations.LogicalResultsAndFlags := by
  intro b lo hi s f a hf
  rcases hf with ⟨hand, rfl⟩ | ⟨hora, rfl⟩ | ⟨heor, rfl⟩
  · have hrun := andForms_runs hand s
    rwa [f.readResult_of_loadA (op := andA) (· &&& ·) fun _ _ => rfl] at hrun
  · have hrun := oraForms_runs hora s
    rwa [f.readResult_of_loadA (op := oraA) (· ||| ·) fun _ _ => rfl] at hrun
  · have hrun := eorForms_runs heor s
    rwa [f.readResult_of_loadA (op := eorA) (· ^^^ ·) fun _ _ => rfl] at hrun

/-! ### BIT (R144) -/

/-- R144: A and the operand give Z, the operand itself N and V; of the registers only P is written. -/
def Regs.bitResult (m : Byte) (r : Regs) : Regs :=
  { r with p := { r.p with z := (r.a &&& m) == 0, n := m.getLsbD 7, v := m.getLsbD 6 } }

theorem bitA_eq (m : Byte) (s : State) : bitA m s = { s with reg := s.reg.bitResult m } := rfl

/-- Settles O28: the reads keep the registers, and BIT writes its three flags. -/
theorem bitTestsMemoryAgainstA : Obligations.BitTestsMemoryAgainstA := by
  intro b lo hi s f hf
  have hrun := bitForms_runs hf s
  rwa [f.readResult_of_writesRegs bitA_eq] at hrun

end Sys2Proof.Machine
end

section
/-! CMP, CPX and CPY (spec/44_compare.md): SBC without borrow-in, of which C, Z and N alone are kept. -/

namespace Sys2Proof.Machine

/-! ### The flags of a comparison as facts about numbers (R150) -/

section
variable (p : Flags) (r m : Byte)

/-- R150: C, Z and N of a comparison are those that binary SBC writes with its carry set, so with no borrow-in. -/
theorem Flags.compare_eq_sbcBinary :
    p.compare r m =
      { p with
        c := (sbcBinary r m { p with c := true }).2.c,
        z := (sbcBinary r m { p with c := true }).2.z,
        n := (sbcBinary r m { p with c := true }).2.n } := by
  have hn (d : BitVec 9) : d.getLsbD 7 = (d.setWidth 8).getLsbD 7 := by simp
  rw [Flags.compare, hn]
  rfl

/-- R150: no borrow, where the register is not below the operand. -/
theorem Flags.compare_c_iff : (p.compare r m).c = true ↔ m.toNat ≤ r.toNat := by
  rw [Flags.compare_eq_sbcBinary, sbcBinary_c_iff, Bool.toNat_true]
  omega

/-- R150: the difference of two bytes is 0 modulo 256 only where they are equal. -/
theorem Flags.compare_z_iff : (p.compare r m).z = true ↔ r = m := by
  have hr := r.isLt
  have hm := m.isLt
  rw [Flags.compare_eq_sbcBinary, sbcBinary_z_iff_difference, Bool.toNat_true, ← BitVec.toNat_inj]
  omega

theorem Flags.compare_n_iff : (p.compare r m).n = true ↔ 128 ≤ (r.toNat + 256 - m.toNat) % 256 := by
  have hm := m.isLt
  rw [Flags.compare_eq_sbcBinary, sbcBinary_n_iff_difference, Bool.toNat_true]
  omega

end

/-! ### The next state of a comparison (R151 to R153) -/

/-- R150: of the registers a comparison of `r` with `m` writes P only. -/
def Regs.compareResult (g : Regs) (r m : Byte) : Regs := { g with p := g.p.compare r m }

theorem cmpA_eq (m : Byte) (s : State) : cmpA m s = { s with reg := s.reg.compareResult s.reg.a m } := rfl
theorem cmpX_eq (m : Byte) (s : State) : cmpX m s = { s with reg := s.reg.compareResult s.reg.x m } := rfl
theorem cmpY_eq (m : Byte) (s : State) : cmpY m s = { s with reg := s.reg.compareResult s.reg.y m } := rfl

/-- R151 to R153: each of the three mnemonics, in every mode, compares its own register with the operand. -/
theorem compareForms_runs {b lo hi : Byte} {f : Form} {s : State} {r : Byte}
    (hf : f ∈ cmpForms b lo hi ∧ r = s.reg.a ∨ f ∈ cpxForms b lo hi ∧ r = s.reg.x ∨ f ∈ cpyForms b lo hi ∧ r = s.reg.y) :
    Runs f.bytes f.instr s
      { (f.operandRead s).2 with reg := s.reg.compareResult r (f.operandRead s).1, cycles := f.readCycles s } := by
  rcases hf with ⟨hcmp, rfl⟩ | ⟨hcpx, rfl⟩ | ⟨hcpy, rfl⟩
  · have hrun := cmpForms_runs hcmp s
    rwa [f.readResult_of_writesRegs (r := fun m g => g.compareResult g.a m) cmpA_eq] at hrun
  · have hrun := cpxForms_runs hcpx s
    rwa [f.readResult_of_writesRegs (r := fun m g => g.compareResult g.x m) cmpX_eq] at hrun
  · have hrun := cpyForms_runs hcpy s
    rwa [f.readResult_of_writesRegs (r := fun m g => g.compareResult g.y m) cmpY_eq] at hrun

/-- Settles O24: the three flags are those of `Flags.compare`, which leaves V, I and D. -/
theorem comparesWriteCarryZeroNegative : Obligations.ComparesWriteCarryZeroNegative := by
  intro b lo hi s f r hf
  exact ⟨_, _, _, compareForms_runs hf, s.reg.p.compare_c_iff _ _, s.reg.p.compare_z_iff _ _, s.reg.p.compare_n_iff _ _⟩

end Sys2Proof.Machine
end

section
/-! ASL, LSR, ROL and ROR (spec/45_shift_rotate.md), of memory and of A: each moves a byte by one bit through the carry. -/

namespace Sys2Proof.Machine

/-! ### The moved byte and the bit shifted out, as numbers -/

theorem toNat_append_byte {n k : Nat} (x : BitVec n) (y : BitVec k) : (x ++ y).toNat = x.toNat * 2 ^ k + y.toNat := by
  rw [BitVec.toNat_append, ← Nat.shiftLeft_add_eq_or_of_lt y.isLt, Nat.shiftLeft_eq]

theorem rolByte_toNat (m : Byte) (c : Bool) :
    (rolByte m c).1.toNat + 256 * (rolByte m c).2.toNat = 2 * m.toNat + c.toNat := by
  have hm := m.isLt
  have hv : (rolByte m c).1.toNat = m.toNat % 128 * 2 + c.toNat := by
    rw [rolByte, toNat_append_byte, BitVec.extractLsb'_toNat, BitVec.toNat_ofBool]
    rfl
  have hc : (rolByte m c).2.toNat = m.toNat / 128 % 2 := Nat.toNat_testBit m.toNat 7
  omega

theorem rorByte_toNat (m : Byte) (c : Bool) :
    2 * (rorByte m c).1.toNat + (rorByte m c).2.toNat = m.toNat + 256 * c.toNat := by
  have hm := m.isLt
  have hv : (rorByte m c).1.toNat = c.toNat * 128 + m.toNat / 2 % 128 := by
    rw [rorByte, toNat_append_byte, BitVec.extractLsb'_toNat, BitVec.toNat_ofBool]
    rfl
  have hc : (rorByte m c).2.toNat = m.toNat / 1 % 2 := Nat.toNat_testBit m.toNat 0
  omega

/-- R161: ASL is ROL with a 0 brought in. -/
theorem aslByte_eq_rolByte (m : Byte) : aslByte m = rolByte m false := rfl

/-- R162: LSR is ROR with a 0 brought in. -/
theorem lsrByte_eq_rorByte (m : Byte) : lsrByte m = rorByte m false := rfl

/-! ### The four instructions as one family -/

/-- R161 to R164: the four mnemonics ASL, LSR, ROL and ROR. -/
inductive Shift
  | left
  | right
  | rotateLeft
  | rotateRight

/-- The operation of the mnemonic in the model. -/
def Shift.op : Shift → Byte → State → Byte × State
  | left => asl
  | right => lsr
  | rotateLeft => rol
  | rotateRight => ror

/-- The memory forms of the mnemonic. -/
def Shift.forms : Shift → Byte → Byte → Byte → List Form
  | left => aslForms
  | right => lsrForms
  | rotateLeft => rolForms
  | rotateRight => rorForms

/-- The accumulator form of the mnemonic: its opcode and the instruction. -/
def Shift.accForm : Shift → Byte × Instr
  | left => (0x0A, .aslAcc)
  | right => (0x4A, .lsrAcc)
  | rotateLeft => (0x2A, .rolAcc)
  | rotateRight => (0x6A, .rorAcc)

/-- R161 to R164: from the byte `m` and the carry `old`, the mnemonic makes the byte `v` and the carry `c`. -/
def Shift.Moves (old : Bool) (m v : Byte) (c : Bool) : Shift → Prop
  | left => v.toNat + 256 * c.toNat = 2 * m.toNat
  | right => 2 * v.toNat + c.toNat = m.toNat
  | rotateLeft => v.toNat + 256 * c.toNat = 2 * m.toNat + old.toNat
  | rotateRight => 2 * v.toNat + c.toNat = m.toNat + 256 * old.toNat

/-- R161 to R164: of the state the operation writes the carry, and it moves the byte through it. -/
theorem Shift.op_eq (k : Shift) (m : Byte) (u : State) :
    ∃ v c, k.op m u = (v, u.setP { u.reg.p with c := c }) ∧ k.Moves u.reg.p.c m v c := by
  cases k with
  | left => exact ⟨_, _, rfl, by rw [aslByte_eq_rolByte]; exact rolByte_toNat m false⟩
  | right => exact ⟨_, _, rfl, by rw [lsrByte_eq_rorByte]; exact rorByte_toNat m false⟩
  | rotateLeft => exact ⟨_, _, rfl, rolByte_toNat m u.reg.p.c⟩
  | rotateRight => exact ⟨_, _, rfl, rorByte_toNat m u.reg.p.c⟩

/-! ### The memory forms -/

theorem Shift.forms_runs (k : Shift) {b lo hi : Byte} {f : Form} (hf : f ∈ k.forms b lo hi) (s : State) :
    Runs f.bytes f.instr s (f.modifyResult k.op s) := by
  cases k with
  | left => exact aslForms_runs hf s
  | right => exact lsrForms_runs hf s
  | rotateLeft => exact rolForms_runs hf s
  | rotateRight => exact rorForms_runs hf s

/-- R84: no form is of two of the mnemonics. -/
theorem Shift.eq_of_mem_forms {k l : Shift} {b lo hi : Byte} {f : Form} (hk : f ∈ k.forms b lo hi)
    (hl : f ∈ l.forms b lo hi) : k = l := by
  by_contra hne
  have hdisjoint : List.Disjoint (k.forms b lo hi) (l.forms b lo hi) := by
    cases k <;> cases l <;> simp [Shift.forms, aslForms, lsrForms, rolForms, rorForms] at hne ⊢
  exact hdisjoint hk hl

/-- R160: an operation that writes the carry of the state: the write of the result comes after it, and SetZN last. -/
theorem Form.modifyResult_of_carry {f : Form} {s u : State} {ea : Word} {m v : Byte} {c : Bool}
    {op : Byte → State → Byte × State} (hop : op m u = (v, u.setP { u.reg.p with c := c }))
    (hea : ea = (resolve f.operand s).ea) (hread : (m, u) = (resolve f.operand s).state.read8 ea) :
    f.modifyResult op s =
      { (u.setP { s.reg.p with c := c }).write8 ea v with
        reg := { s.reg with p := { s.reg.p with c := c, z := v == 0, n := decide (128 ≤ v.toNat) } },
        cycles := f.cycles } := by
  rw [Form.modifyResult_of_read op hea hread, hop, Form.reg_of_read hread, State.setP_reg, Form.reg_of_read hread,
    Flags.setZN_eq]

/-! ### The accumulator forms -/

/-- R160: the next state, where the operation makes `v` and the carry `c` of A. -/
def State.accResult (s : State) (v : Byte) (c : Bool) : State :=
  { s with
    reg := { s.reg with a := v, p := { s.reg.p with c := c, z := v == 0, n := decide (128 ≤ v.toNat) } }, cycles := 2 }

theorem accInstr_of_carry {s : State} {v : Byte} {c : Bool} {op : Byte → State → Byte × State}
    (hop : op s.reg.a s = (v, s.setP { s.reg.p with c := c })) : accInstr 2 op s = .next (s.accResult v c) := by
  rw [accInstr_eq, hop, State.accResult, ← Flags.setZN_eq { s.reg.p with c := c }]
  rfl

theorem Shift.exec_accForm (k : Shift) (s : State) : exec k.accForm.2 s = accInstr 2 k.op s := by
  cases k <;> rfl

theorem Shift.decode_accForm (k : Shift) : decode [k.accForm.1] = .ok (k.accForm.2, []) := by
  cases k <;> rfl

theorem Shift.accForm_runs (k : Shift) (s : State) :
    ∃ v c, Runs [k.accForm.1] k.accForm.2 s (s.accResult v c) ∧ k.Moves s.reg.p.c s.reg.a v c := by
  obtain ⟨v, c, hop, hmoves⟩ := k.op_eq s.reg.a s
  exact ⟨v, c, ⟨k.decode_accForm, (k.exec_accForm s).trans (accInstr_of_carry hop)⟩, hmoves⟩

theorem Shift.eq_of_accForm {k l : Shift} (h : k.accForm.2 = l.accForm.2) : k = l := by
  cases k <;> cases l <;> simp [Shift.accForm] at h ⊢

/-- Settles O29: the form is of one mnemonic, whose operation writes the carry; each equation is that mnemonic's. -/
theorem shiftsMoveOneBitThroughCarry : Obligations.ShiftsMoveOneBitThroughCarry := by
  refine ⟨fun b lo hi s f ea u m hf hea hread => ?_, fun s x hx => ?_⟩
  · obtain ⟨k, hk⟩ : ∃ k : Shift, f ∈ k.forms b lo hi := by
      rcases hf with h | h | h | h
      exacts [⟨.left, h⟩, ⟨.right, h⟩, ⟨.rotateLeft, h⟩, ⟨.rotateRight, h⟩]
    obtain ⟨v, c, hop, hmoves⟩ := k.op_eq m u
    have hrun := k.forms_runs hk s
    rw [Form.modifyResult_of_carry hop hea hread] at hrun
    rw [Form.reg_of_read hread] at hmoves
    have equation (l : Shift) (hl : f ∈ l.forms b lo hi) : l.Moves s.reg.p.c m v c := Shift.eq_of_mem_forms hk hl ▸ hmoves
    exact ⟨v, c, hrun, equation .left, equation .right, equation .rotateLeft, equation .rotateRight⟩
  · obtain ⟨k, rfl⟩ : ∃ k : Shift, x = k.accForm := by
      simp only [List.mem_cons, List.not_mem_nil, or_false] at hx
      rcases hx with h | h | h | h
      exacts [⟨.left, h⟩, ⟨.right, h⟩, ⟨.rotateLeft, h⟩, ⟨.rotateRight, h⟩]
    obtain ⟨v, c, hrun, hmoves⟩ := k.accForm_runs s
    have equation (l : Shift) (hl : k.accForm.2 = l.accForm.2) : l.Moves s.reg.p.c s.reg.a v c :=
      Shift.eq_of_accForm hl ▸ hmoves
    exact ⟨v, c, hrun, equation .left, equation .right, equation .rotateLeft, equation .rotateRight⟩

/-! ### The rotates of A as rotations of nine bits (R160) -/

/-- R160: A with the carry above its bit 7, as one number of nine bits. -/
def Regs.carryA (r : Regs) : Nat := r.a.toNat + 256 * r.p.c.toNat

theorem Regs.carryA_lt (r : Regs) : r.carryA < 512 := by
  have ha := r.a.isLt
  have hc := r.p.c.toNat_lt
  rw [Regs.carryA]
  omega

theorem Regs.eq_of_carryA {r g : Regs} (h : r.carryA = g.carryA) : r.a = g.a ∧ r.p.c = g.p.c := by
  have hr := r.a.isLt
  have hg := g.a.isLt
  rw [Regs.carryA, Regs.carryA] at h
  exact ⟨BitVec.eq_of_toNat_eq (by omega), Function.LeftInverse.injective Bool.ofNat_toNat (by omega)⟩

/-- R163: the carry goes around from the top of the nine bits to bit 0. -/
theorem exec_rolAcc_carryA (s : State) :
    ∃ t, exec .rolAcc s = .next t ∧ t.reg.carryA = 2 * s.reg.a.toNat + s.reg.p.c.toNat := by
  obtain ⟨v, c, ⟨_, hexec⟩, hmoves⟩ := Shift.rotateLeft.accForm_runs s
  exact ⟨_, hexec, hmoves⟩

/-- R164: bit 0 of the nine goes around to the top. -/
theorem exec_rorAcc_carryA (s : State) :
    ∃ t, exec .rorAcc s = .next t ∧ 2 * t.reg.a.toNat + t.reg.p.c.toNat = s.reg.carryA := by
  obtain ⟨v, c, ⟨_, hexec⟩, hmoves⟩ := Shift.rotateRight.accForm_runs s
  exact ⟨_, hexec, hmoves⟩

/-- `w` is the nine-bit number `v` rotated left `k` times: multiplied by 2 to the `k`, with the `k` bits `q` that left at the
top, each worth 512, brought in again at the bottom, where each is worth 1. -/
def RotatedLeft (k v w : Nat) : Prop := ∃ q < 2 ^ k, w + 511 * q = 2 ^ k * v

theorem RotatedLeft.zero (v : Nat) : RotatedLeft 0 v v := ⟨0, by decide, by omega⟩

/-- One more ROL A brings in the carry as the next of the bits that have gone around. -/
theorem RotatedLeft.succ {k v : Nat} {r g : Regs} (h : RotatedLeft k v r.carryA)
    (hg : g.carryA = 2 * r.a.toNat + r.p.c.toNat) : RotatedLeft (k + 1) v g.carryA := by
  obtain ⟨q, hq, hv⟩ := h
  have hc := r.p.c.toNat_lt
  rw [Regs.carryA] at hv
  refine ⟨2 * q + r.p.c.toNat, ?_, ?_⟩
  · rw [Nat.pow_succ]
    omega
  · rw [Nat.pow_succ, Nat.mul_right_comm, ← hv, hg]
    omega

/-- Nine times is all the way around. -/
theorem RotatedLeft.nine_eq {v w : Nat} (h : RotatedLeft 9 v w) (hw : w < 512) : w = v := by
  obtain ⟨q, hq, heq⟩ := h
  omega

section
variable {g : Host.Outcome State Fault Refusal → Host.Outcome State Fault Refusal}

/-- `g` is any step on outcomes that runs ROL A from a next state. -/
theorem iterate_rolAcc (hg : ∀ u, g (.next u) = exec .rolAcc u) (s : State) (k : Nat) :
    ∃ t, g^[k] (.next s) = .next t ∧ RotatedLeft k s.reg.carryA t.reg.carryA := by
  induction k with
  | zero => exact ⟨s, rfl, .zero _⟩
  | succ k ih =>
    obtain ⟨t, hiterate, hrotated⟩ := ih
    obtain ⟨u, hexec, hu⟩ := exec_rolAcc_carryA t
    refine ⟨u, ?_, hrotated.succ hu⟩
    rw [Function.iterate_succ_apply', hiterate, hg, hexec]

theorem iterate_nine_rolAcc (hg : ∀ u, g (.next u) = exec .rolAcc u) (s : State) :
    ∃ t, g^[9] (.next s) = .next t ∧ t.reg.a = s.reg.a ∧ t.reg.p.c = s.reg.p.c := by
  obtain ⟨t, hiterate, hrotated⟩ := iterate_rolAcc hg s 9
  exact ⟨t, hiterate, Regs.eq_of_carryA (hrotated.nine_eq t.reg.carryA_lt)⟩

end

/-- Settles O30: both rotate the nine bits of the carry and A, by one place each way, and nine places are none. -/
theorem rotatesGoThroughCarry : Obligations.RotatesGoThroughCarry := by
  refine fun s => ⟨?rorUndoesRol, ?nineRols⟩
  case rorUndoesRol =>
    obtain ⟨t, hrol, ht⟩ := exec_rolAcc_carryA s
    obtain ⟨u, hror, hu⟩ := exec_rorAcc_carryA t
    have hsame : u.reg.carryA = s.reg.carryA := by
      have hs := s.reg.p.c.toNat_lt
      have hc := u.reg.p.c.toNat_lt
      rw [Regs.carryA, Regs.carryA]
      omega
    exact ⟨t, u, hrol, hror, Regs.eq_of_carryA hsame⟩
  case nineRols =>
    exact iterate_nine_rolAcc (fun _ => rfl) s

end Sys2Proof.Machine
end

section
/-! The loads and the stores (spec/46_load_store_transfer.md): LDA, LDX and LDY write one register with Z and N; STA, STX
and STY write memory only. -/

namespace Sys2Proof.Machine

/-! ### LDA, LDX and LDY (R171 to R173) -/

/-- R170: the registers with Z and N of a byte, N as a bound. -/
def Regs.withZN (g : Regs) (m : Byte) : Regs :=
  { g with p := { g.p with z := m == 0, n := decide (128 ≤ m.toNat) } }

theorem State.setZN_eq (s : State) (m : Byte) : s.setZN m = { s with reg := s.reg.withZN m } := by
  rw [State.setZN, Flags.setZN_eq]
  rfl

theorem lda_eq (m : Byte) (s : State) : lda m s = { s with reg := { s.reg.withZN m with a := m } } :=
  State.setZN_eq (s.setA m) m
theorem ldx_eq (m : Byte) (s : State) : ldx m s = { s with reg := { s.reg.withZN m with x := m } } :=
  State.setZN_eq (s.setX m) m
theorem ldy_eq (m : Byte) (s : State) : ldy m s = { s with reg := { s.reg.withZN m with y := m } } :=
  State.setZN_eq (s.setY m) m

/-- Settles O31: the reads keep the registers, and each load writes its own register with Z and N. -/
theorem loadsWriteOneRegister : Obligations.LoadsWriteOneRegister := by
  rintro b lo hi s f m r rfl rfl
  refine ⟨fun hlda => ?lda, fun hldx => ?ldx, fun hldy => ?ldy⟩
  case lda =>
    have hrun := ldaForms_runs hlda s
    rwa [f.readResult_of_writesRegs (r := fun m g => { g.withZN m with a := m }) lda_eq] at hrun
  case ldx =>
    have hrun := ldxForms_runs hldx s
    rwa [f.readResult_of_writesRegs (r := fun m g => { g.withZN m with x := m }) ldx_eq] at hrun
  case ldy =>
    have hrun := ldyForms_runs hldy s
    rwa [f.readResult_of_writesRegs (r := fun m g => { g.withZN m with y := m }) ldy_eq] at hrun

/-! ### STA, STX and STY (R174 to R176) -/

/-- Settles O32: every store form, `crossed` or not, is one write after the mode's reads, with the form's own cycles: its
`Form.storeResult`. -/
theorem storesWriteTheRegister : Obligations.StoresWriteTheRegister :=
  fun _ _ _ s _ =>
    ⟨fun hsta => staForms_runs hsta s, fun hstx => stxForms_runs hstx s, fun hsty => styForms_runs hsty s⟩

end Sys2Proof.Machine
end

section
/-! The push, pull and flag instructions and NOP (spec/47_stack_flags.md): a push stores one byte in page 1, a pull only reads
one there, so a pull gives back what was pushed whatever registers were written between them. -/

namespace Sys2Proof.Machine

/-! ### The flag instructions and NOP (R195 to R202) -/

/-- Settles O40: each of the eight instructions writes registers only, NOP those that are there. -/
theorem flagInstructionsWriteOneFlag : Obligations.FlagInstructionsWriteOneFlag := by
  intro s
  refine ⟨?clc, ?sec, ?cli, ?sei, ?cld, ?sed, ?clv, ?nop⟩ <;>
    exact runs_of_writesRegs rfl rfl

/-- R195 to R201: each of the seven writes P and nothing else. -/
theorem exec_flagInstr {i : Instr} (hi : i ∈ [Instr.clc, .sec, .cli, .sei, .cld, .sed, .clv]) (s : State) :
    ∃ p, exec i s = .next ((s.setP p).took 2) := by
  simp only [List.mem_cons, List.not_mem_nil, or_false] at hi
  rcases hi with rfl | rfl | rfl | rfl | rfl | rfl | rfl <;> exact ⟨_, rfl⟩

/-! ### PHA and PHP (R191, R192) -/

theorem exec_pha (s : State) : exec .pha s = .next ((s.push s.reg.a).took 3) := rfl

theorem exec_php (s : State) : exec .php s = .next ((s.push (s.reg.p.statusByte true)).took 3) := rfl

/-- R190, R245: of the bus a push reaches RAM, or the flat RAM that stands in its place. -/
theorem State.push_bus (s : State) (v : Byte) :
    (s.push v).bus = { s.bus with ram := (s.push v).bus.ram, flat := (s.push v).bus.flat } := by
  simp only [State.push, State.setS_bus, State.write8, region_stackAddr]
  cases s.params.bus <;> rfl

theorem State.push_storesInStack (s : State) (v : Byte) : StoresInStack s (s.push v) [stackAddr s.reg.s] :=
  ⟨fun a hother => s.peek_push_other v a (hother _ (List.mem_singleton_self _)), s.push_bus v, s.push_params v⟩

/-- R190: all that an instruction does which pushes one byte, whichever byte that is. -/
theorem runs_of_push {bytes : List Byte} {i : Instr} {s : State} {v : Byte} (hs : s.wf = true)
    (hbytes : decode bytes = .ok (i, [])) (hexec : exec i s = .next ((s.push v).took 3)) :
    ∃ t, Runs bytes i s t ∧ t.reg = { s.reg with s := s.reg.s - 1 } ∧ t.peek (stackAddr s.reg.s) = v ∧
      StoresInStack s t [stackAddr s.reg.s] ∧ t.intc = s.intc ∧ t.cycles = 3 ∧ t.diag = s.diag :=
  ⟨_, ⟨hbytes, hexec⟩, s.push_reg v, s.peek_push_self v hs, s.push_storesInStack v, s.push_intc v, rfl, s.push_diag v⟩

/-- Settles O37: PHA and PHP are each one push, of A and of the status image. -/
theorem pushesStoreAtS : Obligations.PushesStoreAtS :=
  fun s hs => ⟨runs_of_push hs rfl (exec_pha s), runs_of_push hs rfl (exec_php s)⟩

/-! ### PLA and PLP (R193, R194) -/

/-- R193: PLA writes registers only: A, S, Z and N. -/
theorem pullA_eq (s : State) :
    pullA s =
      { s with
        reg :=
          { s.reg.withZN (s.peek (stackAddr (s.reg.s + 1))) with
            a := s.peek (stackAddr (s.reg.s + 1)), s := s.reg.s + 1 } } := by
  rw [pullA, State.pull_eq, State.setZN_eq]
  rfl

/-- R194: PLP writes registers only: S and P. -/
theorem pullP_eq (s : State) :
    pullP s =
      { s with
        reg := { s.reg with s := s.reg.s + 1, p := Flags.ofStatusByte (s.peek (stackAddr (s.reg.s + 1))) } } := by
  rw [pullP, State.pull_eq]
  rfl

theorem exec_pla (s : State) : exec .pla s = .next ((pullA s).took 4) := rfl

theorem exec_plp (s : State) : exec .plp s = .next ((pullP s).took 4) := rfl

/-- Settles O38: the byte pulled is the one that `s` shows above S, and only registers are written. -/
theorem pullsReadAboveS : Obligations.PullsReadAboveS := by
  rintro s v rfl
  refine ⟨runs_of_writesRegs rfl ?pla, runs_of_writesRegs rfl ?plp⟩
  case pla => rw [exec_pla, pullA_eq, impliedInstr_eq]; rfl
  case plp => rw [exec_plp, pullP_eq, impliedInstr_eq]

/-! ### A pull after a push -/

/-- R190: while the bus is what a push left, the byte pushed stands above an S that is one below. -/
theorem State.peek_above_push {s t : State} {v : Byte} (hs : s.wf = true) (hbus : t.bus = (s.push v).bus)
    (hparams : t.params = (s.push v).params) (hsp : t.reg.s = s.reg.s - 1) : t.peek (stackAddr (t.reg.s + 1)) = v := by
  rw [hsp, BitVec.sub_add_cancel, State.peek_congr hbus hparams, s.peek_push_self v hs]

/-- R193: PLA gives A the byte that was pushed, and S its value before the push. -/
theorem pullA_after_push {s t : State} {v : Byte} (hs : s.wf = true) (hbus : t.bus = (s.push v).bus)
    (hparams : t.params = (s.push v).params) (hsp : t.reg.s = s.reg.s - 1) :
    (pullA t).reg.a = v ∧ (pullA t).reg.s = s.reg.s := by
  rw [pullA_eq]
  exact ⟨State.peek_above_push hs hbus hparams hsp, by rw [hsp, BitVec.sub_add_cancel]⟩

/-- R194: PLP gives P the flags whose image was pushed, and S its value before the push. -/
theorem pullP_after_push {s t : State} {p : Flags} {b : Bool} (hs : s.wf = true)
    (hbus : t.bus = (s.push (p.statusByte b)).bus) (hparams : t.params = (s.push (p.statusByte b)).params)
    (hsp : t.reg.s = s.reg.s - 1) : (pullP t).reg = { t.reg with s := s.reg.s, p := p } := by
  rw [pullP_eq, State.peek_above_push hs hbus hparams hsp, Flags.ofStatusByte_statusByte, hsp, BitVec.sub_add_cancel]

/-- Settles O39: LDA immediate and the flag instructions write registers other than S, so the pull finds the byte pushed. -/
theorem pullUndoesPush : Obligations.PullUndoesPush := by
  intro s hs
  refine ⟨fun b => ?pla, fun i hi => ?plp⟩
  case pla =>
    exact ⟨_, (lda b _).took 2, _, exec_pha s, rfl, exec_pla _,
      pullA_after_push hs rfl rfl (congrArg Regs.s (s.push_reg s.reg.a))⟩
  case plp =>
    obtain ⟨p, hflag⟩ := exec_flagInstr hi ((s.push (s.reg.p.statusByte true)).took 3)
    have hpulled := pullP_after_push (t := (((s.push (s.reg.p.statusByte true)).took 3).setP p).took 2) hs rfl rfl (by simp)
    exact ⟨_, _, _, exec_php s, hflag, exec_plp _, hpulled.trans (by simp)⟩

end Sys2Proof.Machine
end

section
/-! Every run keeps the invariant (R345): the host calls keep it as every step does. -/

namespace Sys2Proof.Machine

open Sys2Proof.Config

/-- R41, U14: what a restored snapshot brings has been checked; what it leaves is the machine's. -/
theorem Snapshot.restore_wf {n : Snapshot} {s t : State} (h : n.restore s = some t) (hs : s.wf = true) : t.wf = true := by
  obtain ⟨hfits, rfl⟩ := Snapshot.restore_eq_some h
  have hw := (State.wf_iff s).1 hs
  simp only [Snapshot.fits, Bool.and_eq_true] at hfits
  obtain ⟨⟨⟨⟨⟨⟨hram, hwram⟩, hvram⟩, hflat⟩, hchr⟩, -⟩, hirq⟩ := hfits
  have chr : (n.chr.getD s.bus.chr).wf (s.params.chrUnits * chrUnitSize) = true := by
    cases hc : n.chr with
    | none => exact hw.chr
    | some m =>
      rw [hc, Bool.and_eq_true] at hchr
      exact hchr.2
  exact (State.wf_iff _).2 ⟨hram, hwram, hvram, hflat, hw.prg, chr, hw.prgBanks, hw.chrUnits, hirq⟩

/-- R294: the line of a bare core has no sources to agree with. -/
theorem State.setIrqLine_wf (s : State) (level : Bool) (hbare : s.params.bus = .flatRam) (hs : s.wf = true) :
    (s.setIrqLine level).wf = true := by
  have hw := (State.wf_iff s).1 hs
  have agrees : irqAgrees s.params.bus level s.bus.irqSrcMapper s.bus.irqSrcExt = true := by rw [hbare]; rfl
  exact (State.wf_iff _).2 ⟨hw.ram, hw.wram, hw.vram, hw.flat, hw.prg, hw.chr, hw.prgBanks, hw.chrUnits, agrees⟩

theorem State.hostCall_wf (c : HostCall) (s t : State) (h : s.hostCall c = some t) (hs : s.wf = true) : t.wf = true := by
  rcases State.hostCall_cases h with rfl | rfl | ⟨level, hbare, rfl⟩ | ⟨e, -, rfl⟩ | ⟨n, -, hn⟩
  · exact s.cpuReset_wf hs
  · exact (State.wf_congr rfl rfl rfl).trans hs
  · exact s.setIrqLine_wf level hbare hs
  · exact s.applyEffect_wf e hs
  · exact Snapshot.restore_wf hn hs

/-- Settles O46: the invariant is one of the relations that every step respects, and every host call respects it too. -/
theorem eventsKeepTheInvariant : Obligations.EventsKeepTheInvariant :=
  fun es s t hs hrun => wf_accessClosed.runEvents State.hostCall_wf es s t hrun hs

end Sys2Proof.Machine
end

section
/-! The variant `Fixed` (R252): it has no control register, no counter and no latch, so nothing that a step does reaches the
mapper, the mirroring mode or the mapper's IRQ request. -/

namespace Sys2Proof.Machine

open Sys2Proof.Config

/-- From a state with the variant `Fixed`: the mapper, the mirroring mode and the mapper's IRQ request are as before. -/
def KeepsFixedMapper (s t : State) : Prop :=
  s.bus.mapper = .fixed →
    t.bus.mapper = .fixed ∧ t.bus.mirroring = s.bus.mirroring ∧ t.bus.irqSrcMapper = s.bus.irqSrcMapper

theorem KeepsFixedMapper.trans {s t u : State} (h : KeepsFixedMapper s t) (g : KeepsFixedMapper t u) :
    KeepsFixedMapper s u := by
  intro hfixed
  obtain ⟨hmapper, hmirroring, hirq⟩ := h hfixed
  obtain ⟨gmapper, gmirroring, girq⟩ := g hmapper
  exact ⟨gmapper, gmirroring.trans hmirroring, girq.trans hirq⟩

theorem KeepsFixedMapper.of_eq {s t : State} (hmapper : t.bus.mapper = s.bus.mapper)
    (hmirroring : t.bus.mirroring = s.bus.mirroring) (hirq : t.bus.irqSrcMapper = s.bus.irqSrcMapper) :
    KeepsFixedMapper s t :=
  fun hfixed => ⟨hmapper.trans hfixed, hmirroring, hirq⟩

theorem State.vwrite_keepsFixedMapper (s : State) (a : Word) (v : Byte) : KeepsFixedMapper s (s.vwrite a v) := by
  unfold State.vwrite
  split
  · split <;> exact .of_eq rfl rfl rfl
  · exact .of_eq rfl rfl rfl
  · exact .of_eq rfl rfl rfl

/-- R263: with another variant than `ScanlineIrq` a scanline edge is ignored. -/
theorem State.notifyScanlineEdge_of_kind {s : State} (h : s.bus.mapper.kind ≠ .scanlineIrq) : s.notifyScanlineEdge = s := by
  unfold State.notifyScanlineEdge
  cases hm : s.bus.mapper with
  | scanlineIrq m => exact absurd (by rw [hm]; rfl) h
  | _ => rfl

/-- R264: with another variant than `ChrLatch` the notification of a CHR fetch is ignored. -/
theorem State.notifyChrRead_of_kind {s : State} (a : Word) (h : s.bus.mapper.kind ≠ .chrLatch) : s.notifyChrRead a = s := by
  unfold State.notifyChrRead
  cases hm : s.bus.mapper with
  | chrLatch m => exact absurd (by rw [hm]; rfl) h
  | _ => rfl

/-- R252: no write to 0x8000 to 0xFFFF is taken. -/
theorem State.mapperWrite_of_fixed {s : State} (a : Word) (v : Byte) (h : s.bus.mapper = .fixed) :
    s.mapperWrite a v = s := by
  simp only [State.mapperWrite, h]

theorem State.applyEffect_keepsFixedMapper (e : DeviceEffect) (s : State) : KeepsFixedMapper s (s.applyEffect e) := by
  cases e with
  | setExtIrq level => exact .of_eq rfl rfl rfl
  | notifyChrRead a =>
    intro hfixed
    rw [State.applyEffect, State.notifyChrRead_of_kind a (by rw [hfixed]; decide)]
    exact ⟨hfixed, rfl, rfl⟩
  | notifyScanlineEdge =>
    intro hfixed
    rw [State.applyEffect, State.notifyScanlineEdge_of_kind (by rw [hfixed]; decide)]
    exact ⟨hfixed, rfl, rfl⟩
  | chrWrite a v => exact s.vwrite_keepsFixedMapper a v
  | ntWrite a v => exact s.vwrite_keepsFixedMapper a v

/-- R246: whatever the device answers, and in whatever order its effects come. -/
theorem State.applyEffects_keepsFixedMapper (es : List DeviceEffect) (s : State) :
    KeepsFixedMapper s (s.applyEffects es).tickDevice := by
  induction es generalizing s with
  | nil => exact .of_eq rfl rfl rfl
  | cons e rest ih => exact (s.applyEffect_keepsFixedMapper e).trans (ih (s.applyEffect e))

theorem State.read8_keepsFixedMapper (s : State) (a : Word) : KeepsFixedMapper s (s.read8 a).2 := by
  unfold State.read8
  split
  · exact s.applyEffects_keepsFixedMapper _
  · exact .of_eq rfl rfl rfl

theorem State.write8_keepsFixedMapper (s : State) (a : Word) (v : Byte) : KeepsFixedMapper s (s.write8 a v) := by
  unfold State.write8
  split
  · exact .of_eq rfl rfl rfl
  · exact .of_eq rfl rfl rfl
  · exact .of_eq rfl rfl rfl
  · exact s.applyEffects_keepsFixedMapper _
  · intro hfixed
    rw [State.mapperWrite_of_fixed a v hfixed]
    exact ⟨hfixed, rfl, rfl⟩
  · exact .of_eq rfl rfl rfl

theorem keepsFixedMapper_accessClosed : AccessClosed KeepsFixedMapper where
  trans := KeepsFixedMapper.trans
  ofKeepsBus k := .of_eq (by rw [k.bus]) (by rw [k.bus]) (by rw [k.bus])
  read8 := State.read8_keepsFixedMapper
  write8 := State.write8_keepsFixedMapper

/-- Settles O60: `KeepsFixedMapper` is one of the relations that every step respects. -/
theorem fixedMapperNeverChanges : Obligations.FixedMapperNeverChanges :=
  fun s t hfixed hstep => keepsFixedMapper_accessClosed.step s t hstep hfixed

end Sys2Proof.Machine
end

section
/-! The stack as a frame of bytes (R190, R296): what two and three pushes store, what they leave, what the vectors read after
them, and what two and three pulls answer. -/

namespace Sys2Proof.Machine

open Sys2Proof.Config

/-! ### Frames in the stack -/

theorem StoresInStack.trans {s t u : State} {xs ys : List Word} (h : StoresInStack s t xs) (g : StoresInStack t u ys) :
    StoresInStack s u (xs ++ ys) := by
  obtain ⟨hpeek, hbus, hparams⟩ := h
  obtain ⟨gpeek, gbus, gparams⟩ := g
  refine ⟨fun a ha => ?_, by rw [gbus, hbus], gparams.trans hparams⟩
  rw [gpeek a fun x hx => (State.sameCell_congr hparams x a).trans (ha x (List.mem_append_right xs hx)),
    hpeek a fun x hx => ha x (List.mem_append_left ys hx)]

/-- An update of registers, flags and outputs does not show in the frame. -/
theorem StoresInStack.congr {s t u : State} {xs : List Word} (h : StoresInStack s t xs) (hbus : u.bus = t.bus)
    (hparams : u.params = t.params) : StoresInStack s u xs := by
  obtain ⟨hpeek, hb, hp⟩ := h
  exact ⟨fun a ha => (State.peek_congr hbus hparams a).trans (hpeek a ha), by rw [hbus]; exact hb, hparams.trans hp⟩

/-- R24: different stack pointers name different bytes. -/
theorem State.stackAddr_sameCell (s : State) {x y : Byte} (h : x ≠ y) : s.sameCell (stackAddr x) (stackAddr y) = false := by
  have hne : x.toNat ≠ y.toNat := mt BitVec.toNat_inj.1 h
  simp only [State.sameCell, s.stackAddr_isWritable x, region_stackAddr, Bool.true_and, beq_eq_false_iff_ne]
  cases s.params.bus <;> simpa using hne

/-! ### The window of the vectors -/

theorem State.isDevice_high (s : State) {a : Word} (ha : 0x8000 ≤ a.toNat) : s.isDevice a = false := by
  cases hbus : s.params.bus with
  | flatRam => exact s.isDevice_flat a hbus
  | reference => rw [State.isDevice, region_prg hbus ha]

/-- R24, R245: the stack is not in the PRG window. -/
theorem State.sameCell_stackAddr_high (s : State) (sp : Byte) {a : Word} (ha : 0x8000 ≤ a.toNat) :
    s.sameCell (stackAddr sp) a = false := by
  simp only [State.sameCell, s.stackAddr_isWritable sp, region_stackAddr, Bool.true_and, beq_eq_false_iff_ne]
  have hsp := sp.isLt
  cases hbus : s.params.bus with
  | flatRam =>
    simp only [region, hbus, ne_eq, Region.flat.injEq]
    omega
  | reference => simp [region_prg hbus ha]

/-- What stores in the stack only, leaves the window of the vectors. -/
theorem StoresInStack.peek_high {s t : State} {sps : List Byte} (h : StoresInStack s t (sps.map stackAddr)) {a : Word}
    (ha : 0x8000 ≤ a.toNat) : t.peek a = s.peek a := by
  refine h.1 a fun x hx => ?_
  obtain ⟨sp, -, rfl⟩ := List.mem_map.1 hx
  exact s.sameCell_stackAddr_high sp ha

/-! ### Two pushes (R190, R212) -/

theorem State.pushWord_storesInStack (s : State) (w : Word) :
    StoresInStack s (s.pushWord w) [stackAddr s.reg.s, stackAddr (s.reg.s - 1)] := by
  have hlow := (s.push (highByte w)).push_storesInStack (lowByte w)
  rw [State.push_reg] at hlow
  exact (s.push_storesInStack (highByte w)).trans hlow

/-- R190: the high byte is pushed first, so it stands above the low byte. -/
theorem State.peek_pushWord (s : State) (w : Word) (hs : s.wf = true) :
    (s.pushWord w).peek (stackAddr s.reg.s) = highByte w ∧ (s.pushWord w).peek (stackAddr (s.reg.s - 1)) = lowByte w := by
  have hsp : (s.push (highByte w)).reg.s = s.reg.s - 1 := congrArg Regs.s (s.push_reg (highByte w))
  have hbelow : s.reg.s - 1 ≠ s.reg.s := by bv_omega
  constructor
  · rw [State.pushWord, State.peek_push_other, s.peek_push_self _ hs]
    rw [hsp]
    exact State.stackAddr_sameCell _ hbelow
  · rw [State.pushWord, ← hsp]
    exact State.peek_push_self _ _ (s.push_wf _ hs)

/-! ### Three pushes (R296) -/

/-- R296: the return address, then the status image. -/
def State.pushFrame (s : State) (b : Bool) (r : Word) : State := (s.pushWord r).push (s.reg.p.statusByte b)

theorem State.pushFrame_reg (s : State) (b : Bool) (r : Word) :
    (s.pushFrame b r).reg = { s.reg with s := s.reg.s - 3 } := by
  have hsp : s.reg.s - 1 - 1 - 1 = s.reg.s - 3 := by bv_omega
  rw [State.pushFrame, State.push_reg, State.pushWord_reg]
  exact congrArg (fun sp => { s.reg with s := sp }) hsp

theorem State.pushFrame_intc (s : State) (b : Bool) (r : Word) : (s.pushFrame b r).intc = s.intc := by
  simp [State.pushFrame, State.push_intc, State.pushWord_intc]

/-- The three stack pointers that a frame is pushed at. -/
def Regs.frame (g : Regs) : List Byte := [g.s, g.s - 1, g.s - 2]

theorem State.pushFrame_storesInStack (s : State) (b : Bool) (r : Word) :
    StoresInStack s (s.pushFrame b r) (s.reg.frame.map stackAddr) := by
  have hsp : s.reg.s - 1 - 1 = s.reg.s - 2 := by bv_omega
  have hstatus := (s.pushWord r).push_storesInStack (s.reg.p.statusByte b)
  rw [State.pushWord_reg, hsp] at hstatus
  exact (s.pushWord_storesInStack r).trans hstatus

theorem State.peek_pushFrame (s : State) (b : Bool) (r : Word) (hs : s.wf = true) :
    (s.pushFrame b r).peek (stackAddr s.reg.s) = highByte r ∧
      (s.pushFrame b r).peek (stackAddr (s.reg.s - 1)) = lowByte r ∧
      (s.pushFrame b r).peek (stackAddr (s.reg.s - 2)) = s.reg.p.statusByte b := by
  have hsp : (s.pushWord r).reg.s = s.reg.s - 2 := by
    rw [State.pushWord_reg]
    bv_omega
  have hbelow : s.reg.s - 2 ≠ s.reg.s := by bv_omega
  have hbelow' : s.reg.s - 2 ≠ s.reg.s - 1 := by bv_omega
  obtain ⟨hhigh, hlow⟩ := s.peek_pushWord r hs
  refine ⟨?_, ?_, ?_⟩
  · rw [State.pushFrame, State.peek_push_other _ _ _ (by rw [hsp]; exact State.stackAddr_sameCell _ hbelow), hhigh]
  · rw [State.pushFrame, State.peek_push_other _ _ _ (by rw [hsp]; exact State.stackAddr_sameCell _ hbelow'), hlow]
  · rw [State.pushFrame, ← hsp]
    exact State.peek_push_self _ _ (s.pushWord_wf r hs)

/-! ### Pulls (R190, R213, R231) -/

theorem State.pullWord_eq (s : State) :
    s.pullWord =
      (wordOf (s.peek (stackAddr (s.reg.s + 2))) (s.peek (stackAddr (s.reg.s + 1))), s.setS (s.reg.s + 2)) := by
  have hsp : s.reg.s + 1 + 1 = s.reg.s + 2 := by bv_omega
  simp only [State.pullWord, State.pull_eq, State.setS_reg, hsp]
  rfl

/-- R231: the return from an interrupt writes registers only: P, then PC. -/
theorem State.returnFromInterrupt_eq (s : State) :
    s.returnFromInterrupt =
      { s with
        reg :=
          { s.reg with
            s := s.reg.s + 3, p := Flags.ofStatusByte (s.peek (stackAddr (s.reg.s + 1))),
            pc := wordOf (s.peek (stackAddr (s.reg.s + 3))) (s.peek (stackAddr (s.reg.s + 2))) } } := by
  have hpc : s.reg.s + 1 + 2 = s.reg.s + 3 := by bv_omega
  have hlow : s.reg.s + 1 + 1 = s.reg.s + 2 := by bv_omega
  simp only [State.returnFromInterrupt, State.pull_eq, State.pullWord_eq, State.setP_reg, State.setS_reg, hpc, hlow]
  rfl

end Sys2Proof.Machine
end

section
/-! Jumps, subroutines and branches (spec/48_control_flow.md). -/

namespace Sys2Proof.Machine

/-! ### JSR and RTS (R212, R213) -/

theorem exec_jsr (w : Word) (s : State) :
    exec (.jsr w) s = .next (((s.pushWord (s.reg.pc - 1)).setPc w).took 6) := rfl

/-- R213: RTS writes registers only: S and PC. -/
theorem returnFromSubroutine_eq (s : State) :
    returnFromSubroutine s =
      { s with
        reg :=
          { s.reg with
            s := s.reg.s + 2,
            pc := wordOf (s.peek (stackAddr (s.reg.s + 2))) (s.peek (stackAddr (s.reg.s + 1))) + 1 } } := by
  rw [returnFromSubroutine, State.pullWord_eq]
  rfl

theorem exec_rts (s : State) : exec .rts s = .next ((returnFromSubroutine s).took 6) := rfl

/-- R211: the reads of the jump's pointer leave the registers. -/
theorem jumpTo_eq (c : Nat) (o : Operand) (s : State) :
    jumpTo c o s =
      .next { (resolve o s).state with reg := { s.reg with pc := (resolve o s).ea }, cycles := c } := by
  rw [← resolve_reg o s]
  rfl

/-- R212: the registers after the two pushes and the jump. -/
theorem pushedReturn_reg (s : State) (w : Word) :
    ((s.pushWord (s.reg.pc - 1)).setPc w).reg = { s.reg with s := s.reg.s - 2, pc := w } := by
  have hsp : s.reg.s - 1 - 1 = s.reg.s - 2 := by bv_omega
  rw [State.setPc_reg, State.pushWord_reg, hsp]

/-- Settles O41: JMP is its resolver, JSR two pushes, RTS two pulls. -/
theorem jumpsAndSubroutinesSetPc : Obligations.JumpsAndSubroutinesSetPc := by
  intro s lo hi
  refine ⟨⟨rfl, rfl⟩, ⟨rfl, jumpTo_eq 5 _ s⟩, fun hs => ?jsr, ⟨rfl, ?rts⟩⟩
  case jsr =>
    obtain ⟨hhigh, hlow⟩ := s.peek_pushWord (s.reg.pc - 1) hs
    exact ⟨_, ⟨rfl, exec_jsr _ s⟩, pushedReturn_reg s _, hhigh, hlow, s.pushWord_storesInStack _, s.pushWord_intc _, rfl,
      by simp [State.pushWord]⟩
  case rts => rw [exec_rts, returnFromSubroutine_eq]; rfl

/-- Settles O42: the two bytes that RTS pulls are those that JSR pushed, and PC - 1 + 1 is PC. -/
theorem returnUndoesACall : Obligations.ReturnUndoesACall := by
  intro s w hs
  refine ⟨_, _, exec_jsr w s, exec_rts _, ?reg, ?frame⟩
  case reg =>
    obtain ⟨hhigh, hlow⟩ := s.peek_pushWord (s.reg.pc - 1) hs
    have hreg := pushedReturn_reg s w
    generalize hcalled : (s.pushWord (s.reg.pc - 1)).setPc w = t at hreg
    have hpeek (a : Word) : (t.took 6).peek a = (s.pushWord (s.reg.pc - 1)).peek a := by rw [← hcalled]; rfl
    have hsp : s.reg.s - 2 + 1 = s.reg.s - 1 := by bv_omega
    have hsp' : s.reg.s - 2 + 2 = s.reg.s := by bv_omega
    simp only [returnFromSubroutine_eq, State.took_reg, hreg, hpeek, hsp, hsp', hhigh, hlow, wordOf_highByte_lowByte,
      BitVec.sub_add_cancel]
  case frame =>
    rw [returnFromSubroutine_eq]
    exact (s.pushWord_storesInStack (s.reg.pc - 1)).congr rfl rfl

/-! ### Branches (R214 to R222) -/

/-- Each of the eight is the common rule R214 under its own condition. -/
theorem branchForms_exec {b : Byte} {p : Flags} {f : BranchForm} (hf : f ∈ branchForms b p) :
    encode f.instr = [f.opcode, b] ∧
      ∃ cond : Flags → Bool, cond p = f.taken ∧ ∀ s, exec f.instr s = branchInstr cond b s := by
  simp only [branchForms, List.mem_cons, List.not_mem_nil, or_false] at hf
  rcases hf with rfl | rfl | rfl | rfl | rfl | rfl | rfl | rfl
  · exact ⟨rfl, fun p => !p.c, rfl, fun _ => rfl⟩
  · exact ⟨rfl, fun p => p.c, rfl, fun _ => rfl⟩
  · exact ⟨rfl, fun p => p.z, rfl, fun _ => rfl⟩
  · exact ⟨rfl, fun p => !p.z, rfl, fun _ => rfl⟩
  · exact ⟨rfl, fun p => p.n, rfl, fun _ => rfl⟩
  · exact ⟨rfl, fun p => !p.n, rfl, fun _ => rfl⟩
  · exact ⟨rfl, fun p => !p.v, rfl, fun _ => rfl⟩
  · exact ⟨rfl, fun p => p.v, rfl, fun _ => rfl⟩

/-- R113: the displacement is signed, and the addition wraps. -/
theorem branchTarget_toNat (pc : Word) (b : Byte) :
    ((pc + b.signExtend 16).toNat : Int) = ((pc.toNat : Int) + b.toInt) % 65536 := by
  have hb : ((b.signExtend 16).toNat : Int) = b.toInt % 65536 := by
    rw [BitVec.signExtend, BitVec.toNat_ofInt]
    omega
  rw [BitVec.toNat_add]
  omega

/-- R214: one cycle for the branch taken, and one for another page. -/
theorem branchCycles_eq (target pc : Word) :
    (3 + if pagesDiffer target pc then 1 else 0) = if target.toNat / 256 = pc.toNat / 256 then 3 else 4 := by
  by_cases hpage : target.toNat / 256 = pc.toNat / 256
  · rw [if_neg fun h => (pagesDiffer_iff _ _).1 h hpage, if_pos hpage]
  · rw [if_pos ((pagesDiffer_iff _ _).2 hpage), if_neg hpage]

/-- Settles O43: the common rule, taken or not, with the target and the cycles as numbers. -/
theorem branchesMovePcWhenTaken : Obligations.BranchesMovePcWhenTaken := by
  intro b s f hf
  obtain ⟨hbytes, cond, hcond, hexec⟩ := branchForms_exec hf
  have hdecode : decode [f.opcode, b] = .ok (f.instr, []) := (decode_eq_ok_iff _ _).2 hbytes.symm
  refine ⟨fun hno => ⟨hdecode, ?_⟩, fun htaken => ⟨_, ⟨hdecode, ?_⟩, branchTarget_toNat s.reg.pc b⟩⟩
  · rw [hexec, branchInstr_notTaken cond b s (hcond.trans hno)]
    rfl
  · rw [hexec, branchInstr_taken cond b s (hcond.trans htaken), branchCycles_eq]
    rfl

end Sys2Proof.Machine
end

section
/-! Taking an interrupt, the return from one, and `reset()` (R230, R231, R295 to R299, R330, R331). -/

namespace Sys2Proof.Machine

open Sys2Proof.Config

/-! ### The entry (R296) -/

/-- R296: the entry is the frame pushed, and an update of registers; the vector reads as before the pushes. -/
theorem State.interrupt_eq (s : State) {vector : Word} (hlow : 0x8000 ≤ vector.toNat) (hhigh : 0x8000 ≤ (vector + 1).toNat)
    (b : Bool) (r : Word) :
    s.interrupt vector b r =
      { s.pushFrame b r with
        reg :=
          { s.reg with
            s := s.reg.s - 3, p := { s.reg.p with i := true },
            pc := wordOf (s.peek (vector + 1)) (s.peek vector) } } := by
  let masked := (s.pushFrame b r).setP { s.reg.p with i := true }
  have hentry : s.interrupt vector b r = (masked.read16 vector).2.setPc (masked.read16 vector).1 := by
    simp [State.interrupt, State.pushFrame, masked]
  have hpeek {a : Word} (ha : 0x8000 ≤ a.toNat) : masked.peek a = s.peek a :=
    ((s.pushFrame_storesInStack b r).congr rfl rfl).peek_high ha
  rw [hentry, State.read16_memory _ _ (State.isDevice_high _ hlow) (State.isDevice_high _ hhigh), hpeek hlow, hpeek hhigh]
  simp only [masked, State.setPc, State.setP, State.pushFrame_reg]

theorem State.interrupt_intc (s : State) {vector : Word} (hlow : 0x8000 ≤ vector.toNat)
    (hhigh : 0x8000 ≤ (vector + 1).toNat) (b : Bool) (r : Word) : (s.interrupt vector b r).intc = s.intc := by
  rw [s.interrupt_eq hlow hhigh]
  exact s.pushFrame_intc b r

theorem State.interrupt_enters (s : State) (hs : s.wf = true) {vector : Word} (hlow : 0x8000 ≤ vector.toNat)
    (hhigh : 0x8000 ≤ (vector + 1).toNat) (b : Bool) (r : Word) :
    EntersInterrupt s (s.interrupt vector b r) vector b r := by
  obtain ⟨hpcHigh, hpcLow, hstatus⟩ := s.peek_pushFrame b r hs
  rw [s.interrupt_eq hlow hhigh]
  exact ⟨rfl, hpcHigh, hpcLow, hstatus, (s.pushFrame_storesInStack b r).congr rfl rfl⟩

theorem nmiVector_high : 0x8000 ≤ nmiVector.toNat ∧ 0x8000 ≤ (nmiVector + 1).toNat := by decide
theorem irqVector_high : 0x8000 ≤ irqVector.toNat ∧ 0x8000 ≤ (irqVector + 1).toNat := by decide
theorem resetVector_high : 0x8000 ≤ resetVector.toNat ∧ 0x8000 ≤ (resetVector + 1).toNat := by decide

/-! ### BRK and RTI (R230, R231) -/

/-- Settles O10: BRK is the entry through the vector of IRQ and BRK, and one event. -/
theorem brkTakesTheInterruptEntry : Obligations.BrkTakesTheInterruptEntry := by
  intro s hs
  obtain ⟨hlow, hhigh⟩ := irqVector_high
  obtain ⟨-, -, hdiag⟩ := s.interrupt_outputs irqVector true (s.reg.pc + 1)
  exact ⟨(breakTo s).took 7, ⟨rfl, rfl⟩, s.interrupt_enters hs hlow hhigh true _, s.interrupt_intc hlow hhigh true _, rfl,
    congrArg (· ++ [DiagEvent.brk (s.reg.pc - 1)]) hdiag⟩

theorem exec_rti (s : State) : exec .rti s = .next (s.returnFromInterrupt.took 6) := rfl

/-- Settles O11: the three pulls write registers only. -/
theorem rtiRestoresFlagsAndPc : Obligations.RtiRestoresFlagsAndPc := by
  intro s
  refine ⟨rfl, ?_⟩
  rw [exec_rti, State.returnFromInterrupt_eq]
  rfl

/-! ### The service of NMI and IRQ (R295, R297, R298) -/

theorem step_of_nmi {s : State} (h : s.intc.nmiPending = true) : step s = .next s.serviceNmi := by
  rw [step, if_pos h]

theorem step_of_irq {s : State} (hnmi : s.intc.nmiPending = false) (hirq : s.intc.irqLine = true)
    (hi : s.reg.p.i = false) : step s = .next s.serviceIrq := by
  simp [step, hnmi, hirq, hi]

/-- R290 branch 3. -/
theorem step_of_noInterrupt {s : State} (h : s.noInterrupt = true) : step s = exec s.fetchInstr.1 s.fetchInstr.2 := by
  simp only [State.noInterrupt, Bool.and_eq_true, Bool.not_eq_true'] at h
  obtain ⟨hnmi, hirq⟩ := h
  simp only [step, hnmi, hirq, Bool.false_eq_true, if_false]

/-- R297: the latch is cleared, then the entry is taken. -/
theorem State.serviceNmi_enters (s : State) (hs : s.wf = true) :
    EntersInterrupt s s.serviceNmi nmiVector false s.reg.pc ∧
      s.serviceNmi.intc = { s.intc with nmiPending := false } ∧ s.serviceNmi.cycles = 7 ∧
      s.serviceNmi.diag = s.diag ++ [.nmiServiced s.reg.pc] := by
  obtain ⟨hlow, hhigh⟩ := nmiVector_high
  let cleared : State := { s with intc := { s.intc with nmiPending := false } }
  obtain ⟨-, -, hdiag⟩ := cleared.interrupt_outputs nmiVector false s.reg.pc
  exact ⟨cleared.interrupt_enters hs hlow hhigh false s.reg.pc, cleared.interrupt_intc hlow hhigh false s.reg.pc, rfl,
    congrArg (· ++ [DiagEvent.nmiServiced s.reg.pc]) hdiag⟩

theorem State.serviceIrq_enters (s : State) (hs : s.wf = true) :
    EntersInterrupt s s.serviceIrq irqVector false s.reg.pc ∧ s.serviceIrq.intc = s.intc ∧ s.serviceIrq.cycles = 7 ∧
      s.serviceIrq.diag = s.diag ++ [.irqServiced s.reg.pc] := by
  obtain ⟨hlow, hhigh⟩ := irqVector_high
  obtain ⟨-, -, hdiag⟩ := s.interrupt_outputs irqVector false s.reg.pc
  exact ⟨s.interrupt_enters hs hlow hhigh false s.reg.pc, s.interrupt_intc hlow hhigh false s.reg.pc, rfl,
    congrArg (· ++ [DiagEvent.irqServiced s.reg.pc]) hdiag⟩

/-- Settles O7: the two branches of the step before the fetch. -/
theorem interruptServiceEntersTheHandler : Obligations.InterruptServiceEntersTheHandler :=
  fun s hs =>
    ⟨fun hnmi => ⟨_, step_of_nmi hnmi, s.serviceNmi_enters hs⟩,
      fun hnmi hirq hi => ⟨_, step_of_irq hnmi hirq hi, s.serviceIrq_enters hs⟩⟩

/-! ### The return (R299) -/

/-- R299, R231: RTI in the state that an interrupt entry left gives the registers back. -/
theorem EntersInterrupt.return_reg {s t : State} {vector : Word} {b : Bool} (h : EntersInterrupt s t vector b s.reg.pc) :
    t.returnFromInterrupt.reg = s.reg := by
  obtain ⟨hreg, hpcHigh, hpcLow, hstatus, -⟩ := h
  have hsp1 : s.reg.s - 3 + 1 = s.reg.s - 2 := by bv_omega
  have hsp2 : s.reg.s - 3 + 2 = s.reg.s - 1 := by bv_omega
  have hsp3 : s.reg.s - 3 + 3 = s.reg.s := by bv_omega
  simp only [State.returnFromInterrupt_eq, hreg, hsp1, hsp2, hsp3, hpcHigh, hpcLow, hstatus,
    Flags.ofStatusByte_statusByte, wordOf_highByte_lowByte]

/-- RTI stores nothing and leaves the interrupt controller, so the frame and the flags of the entry are those of both. -/
theorem EntersInterrupt.return_undoes {s t : State} {vector : Word} {b : Bool}
    (h : EntersInterrupt s t vector b s.reg.pc) (hirq : t.intc.irqLine = s.intc.irqLine)
    (hnmi : t.intc.nmiPending = false) :
    ∃ u, exec .rti t = .next u ∧ u.reg = s.reg ∧ u.intc.irqLine = s.intc.irqLine ∧ u.intc.nmiPending = false ∧
      StoresInStack s u [stackAddr s.reg.s, stackAddr (s.reg.s - 1), stackAddr (s.reg.s - 2)] := by
  refine ⟨_, exec_rti t, h.return_reg, ?_⟩
  obtain ⟨-, -, -, -, hframe⟩ := h
  rw [State.returnFromInterrupt_eq]
  exact ⟨hirq, hnmi, hframe.congr rfl rfl⟩

/-- Settles O9: the service was that of an NMI or of an IRQ, and each is an entry with PC as the return address. -/
theorem returnUndoesAnInterrupt : Obligations.ReturnUndoesAnInterrupt := by
  intro s t hs hdue hstep
  cases hnmi : s.intc.nmiPending with
  | true =>
    obtain rfl : s.serviceNmi = t := Host.Outcome.next.inj ((step_of_nmi hnmi).symm.trans hstep)
    obtain ⟨henters, hintc, -, -⟩ := s.serviceNmi_enters hs
    exact henters.return_undoes (by rw [hintc]) (by rw [hintc])
  | false =>
    obtain ⟨hirq, hi⟩ : s.intc.irqLine = true ∧ s.reg.p.i = false := by simpa [State.noInterrupt, hnmi] using hdue
    obtain rfl : s.serviceIrq = t := Host.Outcome.next.inj ((step_of_irq hnmi hirq hi).symm.trans hstep)
    obtain ⟨henters, hintc, -, -⟩ := s.serviceIrq_enters hs
    exact henters.return_undoes (by rw [hintc]) (by rw [hintc, hnmi])

/-! ### Reset (R330, R331) and priority (R293, R295) -/

theorem State.cpuReset_eq (s : State) :
    s.cpuReset =
      { s with
        reg :=
          { a := 0x00, x := 0x00, y := 0x00, s := 0xFD, pc := wordOf (s.peek 0xFFFD) (s.peek 0xFFFC), p := Flags.atReset },
        intc := { s.intc with nmiPending := false } } := by
  obtain ⟨hlow, hhigh⟩ := resetVector_high
  simp only [State.cpuReset, State.read16_memory _ _ (State.isDevice_high _ hlow) (State.isDevice_high _ hhigh)]
  rfl

/-- Settles O13: both bytes of the reset vector are memory, so reading them has no side effect. -/
theorem resetSetsRegistersAndReadsTheVector : Obligations.ResetSetsRegistersAndReadsTheVector :=
  fun s => congrArg some s.cpuReset_eq

/-- R297: what an NMI service leaves, in every state, of the invariant or not. -/
theorem State.serviceNmi_reg_intc (s : State) :
    s.serviceNmi.reg =
        { s.reg with
          s := s.reg.s - 3, p := { s.reg.p with i := true }, pc := wordOf (s.peek 0xFFFB) (s.peek 0xFFFA) } ∧
      s.serviceNmi.intc = { s.intc with nmiPending := false } := by
  obtain ⟨hlow, hhigh⟩ := nmiVector_high
  let cleared : State := { s with intc := { s.intc with nmiPending := false } }
  exact ⟨congrArg State.reg (cleared.interrupt_eq hlow hhigh false s.reg.pc),
    cleared.interrupt_intc hlow hhigh false s.reg.pc⟩

/-- Settles O8: the step asks for the NMI first, an entry masks the IRQ, and `reset()` clears the latch and masks the IRQ. -/
theorem interruptPriority : Obligations.InterruptPriority := by
  refine ⟨fun s hnmi hirq => ?both, fun s hnmi hi => ?masked, fun s => ?afterReset⟩
  case both =>
    obtain ⟨hreg, hintc⟩ := s.serviceNmi_reg_intc
    exact ⟨_, step_of_nmi hnmi, by rw [hreg], by rw [hintc], by rw [hintc, hirq], by simp [State.noInterrupt, hreg, hintc]⟩
  case masked => exact step_of_noInterrupt (by simp [State.noInterrupt, hnmi, hi])
  case afterReset =>
    obtain ⟨hreg, -⟩ := s.cpuReset.assertNmi.serviceNmi_reg_intc
    refine ⟨by simp [State.noInterrupt, s.cpuReset_eq, Flags.atReset], _, step_of_nmi rfl, ?_, ?_⟩
    · rw [hreg, s.cpuReset_eq]
      rfl
    · rw [hreg]
      simp [s.cpuReset_eq]

end Sys2Proof.Machine
end

section
/-! The step around the instruction (R81, R100, R290): the fetch of code in memory; and the undefined opcodes (R232). -/

namespace Sys2Proof.Machine

open Sys2Proof.Config

/-! ### The fetch (R100) -/

theorem State.holdsCode_cons {s : State} {a : Word} {b : Byte} {rest : List Byte} (h : s.holdsCode a (b :: rest) = true) :
    s.isDevice a = false ∧ s.peek a = b ∧ s.holdsCode (a + 1) rest = true := by
  simpa [State.holdsCode, and_assoc] using h

/-- R56, R100: a fetch from memory has no side effect but on PC. -/
theorem State.fetch_setPc (s : State) {pc : Word} (h : s.isDevice pc = false) :
    (s.setPc pc).fetch = (s.peek pc, s.setPc (pc + 1)) := by
  have hread := (s.setPc pc).read8_memory pc h
  simp only [State.fetch, State.setPc_reg, hread]
  rfl

/-- R81, R290: the fetch of a whole instruction from memory, by the three lengths of an encoding. -/
theorem State.fetchInstr_setPc {s : State} {pc : Word} {i : Instr} (h : s.holdsCode pc (encode i) = true) :
    (s.setPc pc).fetchInstr = (i, s.setPc (pc + BitVec.ofNat 16 (encode i).length)) := by
  have hfiled := filed_opcode i
  generalize (encode i).headD 0x00 = op at hfiled
  cases hfiled with
  | imp length build bytes =>
    rw [bytes] at h ⊢
    obtain ⟨hdev, rfl, -⟩ := State.holdsCode_cons h
    simp only [State.fetchInstr, s.fetch_setPc hdev, length, build]
    rfl
  | byte length build bytes b =>
    rw [bytes] at h ⊢
    obtain ⟨hdev, rfl, hrest⟩ := State.holdsCode_cons h
    obtain ⟨hdev', rfl, -⟩ := State.holdsCode_cons hrest
    simp only [State.fetchInstr, s.fetch_setPc hdev, s.fetch_setPc hdev', length, build]
    rw [BitVec.add_assoc]
    rfl
  | word length build bytes w =>
    rw [bytes] at h ⊢
    obtain ⟨hdev, rfl, hrest⟩ := State.holdsCode_cons h
    obtain ⟨hdev', hlow, hlast⟩ := State.holdsCode_cons hrest
    obtain ⟨hdev'', hhigh, -⟩ := State.holdsCode_cons hlast
    simp only [State.fetchInstr, s.fetch_setPc hdev, s.fetch_setPc hdev', s.fetch_setPc hdev'', length, build, hlow, hhigh,
      wordOf_highByte_lowByte]
    rw [BitVec.add_assoc, BitVec.add_assoc]
    rfl

/-- Settles O4: the bytes are the instruction's encoding, and the fetch reads them back. -/
theorem stepRunsTheDecodedInstruction : Obligations.StepRunsTheDecodedInstruction := by
  intro s bytes i hquiet hcode hdecode _
  obtain rfl := (decode_eq_ok_iff i bytes).1 hdecode
  have hfetch := State.fetchInstr_setPc hcode
  rw [step_of_noInterrupt hquiet, show s.fetchInstr = (s.setPc s.reg.pc).fetchInstr from rfl, hfetch]

/-! ### Undefined opcodes (R232) -/

theorem undefinedOpcode_eq (op : Byte) (s : State) :
    undefinedOpcode op s =
      .next { s with cycles := 2, diag := s.diag ++ [.undefinedOpcode (s.reg.pc - 1) op] } := rfl

theorem undefinedForms_exec {x : Byte × Instr} (hx : x ∈ undefinedForms) (s : State) :
    encode x.2 = [x.1] ∧ exec x.2 s = undefinedOpcode x.1 s := by
  rw [undefinedForms] at hx
  fin_cases hx <;> exact ⟨rfl, rfl⟩

/-- R86: the list of the undefined opcodes and the dispatch table's column of the official ones say the same. -/
theorem dispatch_official_eq_false_iff (op : Byte) : (dispatch op).official = false ↔ op ∈ undefinedForms.map Prod.fst := by
  revert op
  decide

/-- Settles O12: each of the 105 has the one common meaning, and the list is that of the table. -/
theorem undefinedOpcodesDoNothing : Obligations.UndefinedOpcodesDoNothing := by
  refine ⟨fun s x hx => ?_, rfl, dispatch_official_eq_false_iff⟩
  obtain ⟨hbytes, hexec⟩ := undefinedForms_exec hx s
  exact ⟨(decode_eq_ok_iff _ _).2 hbytes.symm, hexec.trans (undefinedOpcode_eq x.1 s)⟩

end Sys2Proof.Machine
end

section
/-! The cycles of every instruction and of every step (R84, R114, R214, R350), and that each answers a next state. -/

namespace Sys2Proof.Machine

open Sys2Proof.Config

/-! ### One row of the table -/

/-- R114, R214: the most cycles that an instruction of this entry takes above the base count. -/
def maxPenalty (r : Row) : Nat := if r.pagePenalty then 1 else if r.mode = .rel then 2 else 0

/-- The outcome is a next state, after at least `base` and at most `base + penalty` cycles. -/
def Takes (base penalty : Nat) (o : Host.Outcome State Fault Refusal) : Prop :=
  ∃ t, o = .next t ∧ base ≤ t.cycles ∧ t.cycles ≤ base + penalty

theorem takes_took (s : State) (c : Nat) : Takes c 0 (.next (s.took c)) := ⟨_, rfl, le_refl c, le_refl c⟩

/-! ### The shapes (R115) -/

theorem Resolved.penalty_le_one (r : Resolved) : r.penalty ≤ 1 := by
  rw [Resolved.penalty_eq]
  split <;> decide

/-- R114: a read without `+p` never takes the penalty. -/
theorem takes_readInstr (c : Nat) (o : Operand) (op : Byte → State → State) (s : State) :
    Takes c 0 (readInstr c false o op s) := takes_took _ c

theorem takes_readInstr_penalised (c : Nat) (o : Operand) (op : Byte → State → State) (s : State) :
    Takes c 1 (readInstr c true o op s) :=
  ⟨_, rfl, Nat.le_add_right _ _, Nat.add_le_add_left (resolve o s).penalty_le_one c⟩

/-- R214: a branch takes one cycle more where it is taken, and another where its target is on another page. -/
theorem takes_branchInstr (cond : Flags → Bool) (b : Byte) (s : State) : Takes 2 2 (branchInstr cond b s) := by
  cases hc : cond s.reg.p with
  | true =>
    refine ⟨_, branchInstr_taken cond b s hc, ?_⟩
    rw [State.took_cycles]
    split <;> decide
  | false => exact ⟨_, branchInstr_notTaken cond b s hc, le_refl 2, Nat.le_add_right 2 2⟩

/-! ### Every instruction -/

/-- R350: every instruction, by the shape of its meaning: a read with or without `+p`, a branch, or one of a fixed count. -/
theorem takes_exec (i : Instr) (s : State) :
    Takes (dispatch ((encode i).headD 0x00)).cycles (maxPenalty (dispatch ((encode i).headD 0x00))) (exec i s) := by
  cases i with
  | adcAbx | adcAby | adcIzy | sbcAbx | sbcAby | sbcIzy | andAbx | andAby | andIzy | oraAbx | oraAby | oraIzy
  | eorAbx | eorAby | eorIzy | cmpAbx | cmpAby | cmpIzy | ldaAbx | ldaAby | ldaIzy | ldxAby | ldyAbx =>
    rw [encode, List.headD_cons]
    exact takes_readInstr_penalised _ _ _ s
  | adcImm | adcZp | adcZpx | adcAbs | adcIzx | sbcImm | sbcZp | sbcZpx | sbcAbs | sbcIzx
  | andImm | andZp | andZpx | andAbs | andIzx | oraImm | oraZp | oraZpx | oraAbs | oraIzx
  | eorImm | eorZp | eorZpx | eorAbs | eorIzx | bitZp | bitAbs | cmpImm | cmpZp | cmpZpx | cmpAbs | cmpIzx
  | cpxImm | cpxZp | cpxAbs | cpyImm | cpyZp | cpyAbs | ldaImm | ldaZp | ldaZpx | ldaAbs | ldaIzx
  | ldxImm | ldxZp | ldxZpy | ldxAbs | ldyImm | ldyZp | ldyZpx | ldyAbs =>
    rw [encode, List.headD_cons]
    exact takes_readInstr _ _ _ s
  | bcs | beq | bmi | bvs =>
    rw [encode, List.headD_cons]
    exact takes_branchInstr _ _ s
  | bcc =>
    rw [encode, List.headD_cons]
    exact takes_branchInstr (fun p => !p.c) _ s
  | bne =>
    rw [encode, List.headD_cons]
    exact takes_branchInstr (fun p => !p.z) _ s
  | bpl =>
    rw [encode, List.headD_cons]
    exact takes_branchInstr (fun p => !p.n) _ s
  | bvc =>
    rw [encode, List.headD_cons]
    exact takes_branchInstr (fun p => !p.v) _ s
  | _ =>
    rw [encode, List.headD_cons]
    exact takes_took _ _

/-- Settles O6: the bounds of the instruction's own entry. -/
theorem cyclesAreTheTablesCounts : Obligations.CyclesAreTheTablesCounts := by
  intro i s t hexec
  obtain ⟨u, hnext, hcycles⟩ := takes_exec i s
  obtain rfl : t = u := Host.Outcome.next.inj (hexec.symm.trans hnext)
  exact hcycles

/-- R84: no entry of the table leaves the range of R350, with its penalty or without. -/
theorem dispatch_cycles_range (op : Byte) :
    2 ≤ (dispatch op).cycles ∧ (dispatch op).cycles + maxPenalty (dispatch op) ≤ 7 := by
  revert op
  decide

/-- R300, R350. -/
theorem exec_completes (i : Instr) (s : State) : ∃ t, exec i s = .next t ∧ 2 ≤ t.cycles ∧ t.cycles ≤ 7 := by
  obtain ⟨t, hnext, hbase, hmost⟩ := takes_exec i s
  obtain ⟨hrange, hrange'⟩ := dispatch_cycles_range ((encode i).headD 0x00)
  exact ⟨t, hnext, hrange.trans hbase, hmost.trans hrange'⟩

/-- Settles O5: the services of NMI and IRQ take 7 cycles, and every instruction completes. -/
theorem everyStepCompletes : Obligations.EveryStepCompletes := by
  refine ⟨fun s => ?_, exec_completes⟩
  unfold step
  split
  · exact ⟨_, rfl, Nat.le_add_left 2 5, le_refl 7⟩
  · split
    · exact ⟨_, rfl, Nat.le_add_left 2 5, le_refl 7⟩
    · exact exec_completes _ _

end Sys2Proof.Machine
end

section
/-! Loading (R249, R250, R340): the clamped counts, the memories made from the images, and `State.reset` as a machine
loaded. -/

namespace Sys2Proof.Machine

open Sys2Proof.Config

/-! ### The clamped counts (R249) -/

theorem powerOfTwoFloor_isPowerOfTwo (n : Nat) : isPowerOfTwo (powerOfTwoFloor n) = true := by
  simp [isPowerOfTwo, powerOfTwoFloor]

theorem bankCount_bounds {len size : Nat} (hsize : 0 < size) (hlen : size ≤ len) :
    bankCount len size * size ≤ len ∧ len < 2 * bankCount len size * size := by
  have hbank : len / size ≠ 0 := (Nat.div_pos hlen hsize).ne'
  have hle : bankCount len size ≤ len / size := Nat.log2_self_le hbank
  have hlt : len / size < 2 * bankCount len size := by
    have h := Nat.lt_log2_self (n := len / size)
    rwa [Nat.pow_succ, Nat.mul_comm] at h
  exact ⟨(Nat.le_div_iff_mul_le hsize).1 hle, (Nat.div_lt_iff_lt_mul hsize).1 hlt⟩

/-! ### A memory made from bytes -/

theorem Memory.get_ofBytesFrom (bytes : List Byte) (k i : Nat) (hi : i < bytes.length) :
    some ((Memory.ofBytesFrom k bytes).get (k + i)) = bytes[i]? := by
  induction bytes generalizing k i with
  | nil => exact absurd hi (Nat.not_lt_zero i)
  | cons v rest ih =>
    cases i with
    | zero =>
      have hrest := Memory.wfFrom_ofBytesFrom (k + 1 + rest.length) rest (k + 1) (le_refl _)
      exact congrArg some (Memory.get_consCell_self _ _ k v hrest)
    | succ i =>
      rw [Memory.ofBytesFrom, Memory.get_consCell_other _ _ _ _ (by omega), List.getElem?_cons_succ,
        show k + (i + 1) = k + 1 + i by omega]
      exact ih (k + 1) i (Nat.lt_of_succ_lt_succ hi)

/-- R249, R250: within the size, a memory holds the bytes it was made from. -/
theorem Memory.get_ofBytes {size : Nat} {bytes : List Byte} {k : Nat} (hsize : k < size) (hlen : k < bytes.length) :
    some ((Memory.ofBytes size bytes).get k) = bytes[k]? := by
  have h := Memory.get_ofBytesFrom (bytes.take size) 0 k (by rw [List.length_take]; omega)
  rwa [Nat.zero_add, List.getElem?_take_of_lt hsize] at h

/-- Bytes that an unlisted address reads as anyway make no cell. -/
theorem Memory.ofBytesFrom_replicate (k n : Nat) : Memory.ofBytesFrom k (List.replicate n unlistedByte) = [] := by
  induction n generalizing k with
  | zero => rfl
  | succ n ih =>
    rw [List.replicate_succ, Memory.ofBytesFrom, ih]
    rfl

theorem Memory.ofBytes_replicate (size n : Nat) : Memory.ofBytes size (List.replicate n unlistedByte) = [] := by
  rw [Memory.ofBytes, List.take_replicate, Memory.ofBytesFrom_replicate]

/-! ### `load` -/

/-- R250, R340: the machine that a load which is not refused makes. -/
def LoadArgs.machine (args : LoadArgs) : State :=
  { reg := Regs.constructed,
    intc := { nmiPending := false, irqLine := false },
    bus :=
      { ram := Memory.ofBytes ramSize args.ramInit, wram := Memory.ofBytes wramSize args.wramInit,
        prg := Memory.ofBytes (bankCount args.prg.length prgBankSize * prgBankSize) args.prg,
        chr := Memory.ofBytes (bankCount args.chr.length chrUnitSize * chrUnitSize) args.chr,
        vram := Memory.ofBytes vramSize args.vramInit, flat := [],
        irqSrcMapper := false, irqSrcExt := false, mirroring := args.mirroring,
        mapper := Mapper.initial args.mapper, deviceTick := 0 },
    params :=
      { bus := .reference, decimalMode := args.decimalMode, openBus := args.openBus, wramPresent := args.wramPresent,
        prgBanks := bankCount args.prg.length prgBankSize, chrUnits := bankCount args.chr.length chrUnitSize,
        chrWritable := args.chrWritable },
    cycles := 0,
    diag := clampEvents true args.prg.length (bankCount args.prg.length prgBankSize * prgBankSize) ++
      clampEvents false args.chr.length (bankCount args.chr.length chrUnitSize * chrUnitSize) }

theorem load_of_short_prg {args : LoadArgs} (hprg : args.prg.length < prgBankSize) : load args = .error .noPrgBank := by
  rw [load, if_pos (Nat.div_eq_of_lt hprg)]

theorem load_of_short_chr {args : LoadArgs} (hprg : prgBankSize ≤ args.prg.length) (hchr : args.chr.length < chrUnitSize) :
    load args = .error .noChrUnit := by
  rw [load, if_neg (Nat.div_pos hprg (by decide)).ne', if_pos (Nat.div_eq_of_lt hchr)]

theorem load_eq_ok {args : LoadArgs} (hprg : prgBankSize ≤ args.prg.length) (hchr : chrUnitSize ≤ args.chr.length) :
    load args = .ok args.machine := by
  rw [load, if_neg (Nat.div_pos hprg (by decide)).ne', if_neg (Nat.div_pos hchr (by decide)).ne']
  rfl

theorem LoadArgs.machine_wf (args : LoadArgs) : args.machine.wf = true :=
  (State.wf_iff _).2
    ⟨Memory.wf_ofBytes _ _, Memory.wf_ofBytes _ _, Memory.wf_ofBytes _ _, rfl, Memory.wf_ofBytes _ _, Memory.wf_ofBytes _ _,
      powerOfTwoFloor_isPowerOfTwo _, powerOfTwoFloor_isPowerOfTwo _, rfl⟩

/-- Settles O15: the two refusals, and for the machine of a load the bounds of the counts and the bytes of the memories. -/
theorem loadClampsAndInitialises : Obligations.LoadClampsAndInitialises := by
  intro args
  refine ⟨load_of_short_prg, load_of_short_chr, fun hprg hchr => ⟨args.machine, load_eq_ok hprg hchr, args.machine_wf, ?_⟩⟩
  obtain ⟨hprgLe, hprgLt⟩ := bankCount_bounds (size := prgBankSize) (by decide) hprg
  obtain ⟨hchrLe, hchrLt⟩ := bankCount_bounds (size := chrUnitSize) (by decide) hchr
  refine ⟨rfl, rfl, rfl, rfl, rfl, rfl, rfl, powerOfTwoFloor_isPowerOfTwo _, hprgLe, hprgLt, powerOfTwoFloor_isPowerOfTwo _,
    hchrLe, hchrLt, fun k hk => Memory.get_ofBytes hk (hk.trans_le hprgLe),
    fun k hk => Memory.get_ofBytes hk (hk.trans_le hchrLe),
    rfl, fun k => Memory.get_ofBytes, fun k => Memory.get_ofBytes, fun k => Memory.get_ofBytes, rfl, rfl, rfl, ?mapper⟩
  case mapper =>
    change Mapper.initial args.mapper = _
    cases args.mapper <;> rfl

/-! ### `State.reset` -/

/-- The images behind `State.reset` are all zeros, of one bank and of eight units. -/
theorem LoadArgs.machine_atReset : LoadArgs.atReset.machine = State.reset := by
  have hprg : LoadArgs.atReset.prg = List.replicate 8192 unlistedByte := rfl
  have hchr : LoadArgs.atReset.chr = List.replicate 8192 unlistedByte := rfl
  simp only [LoadArgs.machine, hprg, hchr, List.length_replicate, Memory.ofBytes_replicate]
  rfl

/-- Settles O14: the vector that `reset()` reads lies in a bank of zeros, so it leaves the machine as loaded. -/
theorem resetStateIsLoadThenReset : Obligations.ResetStateIsLoadThenReset := by
  have hprg : LoadArgs.atReset.prg.length = prgBankSize := List.length_replicate
  have hchr : LoadArgs.atReset.chr.length = 8 * chrUnitSize := List.length_replicate
  refine ⟨_, load_eq_ok hprg.ge (by rw [hchr]; decide), ?_⟩
  rw [LoadArgs.machine_atReset, State.hostCall, State.cpuReset_eq]
  rfl

end Sys2Proof.Machine
end

section
/-! The address decoding of the reference bus (R245, R246). -/

namespace Sys2Proof.Machine

open Sys2Proof.Config

section
variable {p : Params} {a : Word}

theorem region_ram (hp : p.bus = .reference) (ha : a.toNat < 0x2000) : region p a = .ram (a.toNat % 2048) := by
  simp only [region, hp, ha, if_true, ramSize]

theorem region_video (hp : p.bus = .reference) (ha : 0x2000 ≤ a.toNat) (ha' : a.toNat < 0x4000) {reg : BitVec 5}
    (hreg : reg.toNat = a.toNat % 8) : region p a = .device .video reg := by
  simp only [region, hp, if_neg ha.not_gt, ha', if_true, ← hreg, BitVec.ofNat_toNat, BitVec.setWidth_eq]

theorem region_io (hp : p.bus = .reference) (ha : 0x4000 ≤ a.toNat) (ha' : a.toNat < 0x4020) {reg : BitVec 5}
    (hreg : reg.toNat = a.toNat - 0x4000) : region p a = .device .io reg := by
  simp only [region, hp, if_neg ha.not_gt, show ¬ a.toNat < 0x2000 by omega, ha', if_true, if_false, ← hreg,
    BitVec.ofNat_toNat, BitVec.setWidth_eq]

theorem region_unmapped (hp : p.bus = .reference) (ha : 0x4020 ≤ a.toNat)
    (ha' : a.toNat < 0x6000 ∨ (a.toNat < 0x8000 ∧ p.wramPresent = false)) : region p a = .unmapped := by
  simp only [region, hp, if_neg ha.not_gt, show ¬ a.toNat < 0x2000 by omega, show ¬ a.toNat < 0x4000 by omega, if_false]
  rcases ha' with hlow | ⟨hhigh, habsent⟩
  · rw [if_pos hlow]
  · rw [habsent, if_pos hhigh]
    exact ite_self _

theorem region_wram (hp : p.bus = .reference) (ha : 0x6000 ≤ a.toNat) (ha' : a.toNat < 0x8000)
    (hpresent : p.wramPresent = true) : region p a = .wram (a.toNat - 0x6000) := by
  simp only [region, hp, if_neg ha.not_gt, show ¬ a.toNat < 0x2000 by omega, show ¬ a.toNat < 0x4000 by omega,
    show ¬ a.toNat < 0x4020 by omega, ha', hpresent, if_true, if_false]

end

/-- R245: in the PRG window a write reaches the mapper. -/
theorem State.write8_prg {s : State} {a : Word} (hbus : s.params.bus = .reference) (ha : 0x8000 ≤ a.toNat) (v : Byte) :
    s.write8 a v = s.mapperWrite a v := by
  simp only [State.write8, region_prg hbus ha]

/-- Settles O50: the rows of R245 one by one. -/
theorem busDecodesEveryAddress : Obligations.BusDecodesEveryAddress := by
  intro s a v hbus
  refine ⟨fun ha => ?ram, fun ha ha' reg hreg => ?video, fun ha ha' reg hreg => ?io, fun ha ha' => ?unmapped,
    fun ha ha' hpresent => ?wram, fun ha => ?prg⟩
  case ram => simp only [State.read8, State.write8, State.peek, region_ram hbus ha, and_self]
  case video =>
    simp only [State.read8, State.write8, region_video hbus ha ha' hreg]
    exact ⟨rfl, rfl⟩
  case io =>
    simp only [State.read8, State.write8, region_io hbus ha ha' hreg]
    exact ⟨rfl, rfl⟩
  case unmapped => simp only [State.read8, State.write8, State.peek, region_unmapped hbus ha ha', and_self]
  case wram => simp only [State.read8, State.write8, State.peek, region_wram hbus ha ha' hpresent, and_self]
  case prg =>
    have hwrite := State.write8_prg hbus ha v
    refine ⟨?_, hwrite, (s.write8_rom a v).1, fun hfixed => hwrite.trans (State.mapperWrite_of_fixed a v hfixed)⟩
    simp only [State.read8, State.peek, region_prg hbus ha]

/-- Settles O57: `set_ext_irq` is a call of the reference bus, and ends with `UpdateIrq`. -/
theorem irqSourcesAreOred : Obligations.IrqSourcesAreOred :=
  fun _ _ hbus => if_pos hbus

end Sys2Proof.Machine
end

section
/-! The PRG windows (R248, R251, R255, R269): each shows the bank that the table of the mapper variant names, reduced by the
count of banks. -/

namespace Sys2Proof.Machine

open Sys2Proof.Config

/-- R248, R249: where the count is a power of two the reduction is a mask. -/
theorem mod_eq_and_of_isPowerOfTwo {n : Nat} (h : isPowerOfTwo n = true) (k : Nat) : k % n = k &&& (n - 1) := by
  rw [isPowerOfTwo, beq_iff_eq] at h
  rw [← h, Nat.and_two_pow_sub_one_eq_mod]

/-! ### PRG (R255, R269) -/

/-- The banks of the four windows, as a list. -/
def prgWindowBanks (m : Mapper) (n : Nat) : List Int := (List.range 4).map (prgWindowBank m n)

theorem getElem?_prgWindowBanks (m : Mapper) (n : Nat) {w : Nat} (hw : w < 4) :
    (prgWindowBanks m n)[w]? = some (prgWindowBank m n w) := by
  rw [prgWindowBanks, List.getElem?_map, List.getElem?_range hw, Option.map_some]

/-- R252, R255, R269: the table of each variant. -/
theorem prgWindowBanks_eq (m : Mapper) (n : Nat) :
    prgWindowBanks m n =
      match m with
      | .fixed => [(n : Int) - 4, n - 3, n - 2, n - 1]
      | .scanlineIrq m =>
        if m.bankSelect.getLsbD 6 then [(n : Int) - 2, m.bankReg[7].toNat, m.bankReg[6].toNat, n - 1]
        else [(m.bankReg[6].toNat : Int), m.bankReg[7].toNat, n - 2, n - 1]
      | .chrLatch m => [(m.prgBank.toNat : Int), n - 3, n - 2, n - 1] := by
  have hlist : prgWindowBanks m n =
      [prgWindowBank m n 0, prgWindowBank m n 1, prgWindowBank m n 2, prgWindowBank m n 3] := rfl
  rw [hlist]
  cases m with
  | fixed =>
    simp only [prgWindowBank, List.cons.injEq, and_true]
    omega
  | scanlineIrq m =>
    simp only [prgWindowBank]
    split <;> rfl
  | chrLatch m => rfl

/-- R248: the bank shown is the remainder by the count of banks, there being one at least. -/
theorem prgBank_eq {n : Nat} (hn : 0 < n) (k : Int) : (prgBank n k : Int) = k % n ∧ prgBank n k < n := by
  have hpos : (0 : Int) < n := by exact_mod_cast hn
  have hcast : (prgBank n k : Int) = k % n := Int.toNat_of_nonneg (Int.emod_nonneg k hpos.ne')
  have hlt := Int.emod_lt_of_pos k hpos
  exact ⟨hcast, by omega⟩

theorem prgBank_of_nonneg {n : Nat} (hn : isPowerOfTwo n = true) {k : Int} (hk : 0 ≤ k) :
    prgBank n k = k.toNat &&& (n - 1) := by
  rw [← mod_eq_and_of_isPowerOfTwo hn, prgBank, Int.toNat_emod hk (Int.natCast_nonneg n), Int.toNat_natCast]

/-- Settles O51: the window is bits 14 and 13 of the address. -/
theorem prgWindowsShowTheSelectedBanks : Obligations.PrgWindowsShowTheSelectedBanks := by
  rintro s a w banks p hs hbus hw hlow hhigh rfl hbanks
  have hpow := ((State.wf_iff s).1 hs).prgBanks
  obtain ⟨hmod, hlt⟩ := prgBank_eq (isPowerOfTwo_pos _ hpow) (prgWindowBank s.bus.mapper s.params.prgBanks w)
  have hlist : banks[w]? = some (prgWindowBank s.bus.mapper s.params.prgBanks w) := by
    rw [← getElem?_prgWindowBanks _ _ hw, prgWindowBanks_eq]
    exact congrArg (·[w]?) hbanks
  have hwindow : a.toNat / 8192 % 4 = w := by omega
  refine ⟨_, _, hlist, hmod, hlt, prgBank_of_nonneg hpow, ?_⟩
  simp only [State.peek, region_prg hbus (show 0x8000 ≤ a.toNat by omega), prgIndex, hwindow, prgBankSize]

end Sys2Proof.Machine
end

section
/-! The video side (R256, R258 to R262, R270): the CHR windows, as those of PRG, and the nametables. -/

namespace Sys2Proof.Machine

open Sys2Proof.Config

/-! ### The three parts of the video space (R258) -/

theorem State.videoRegion_chr {s : State} {a : Word} (ha : a.toNat % 0x4000 < 0x2000) :
    s.videoRegion a = .chr (chrIndex s.bus.mapper s.params.chrUnits (a.toNat % 0x4000)) := by
  simp only [State.videoRegion, ha, if_true]

theorem State.videoRegion_nametable {s : State} {a : Word} (ha : 0x2000 ≤ a.toNat % 0x4000)
    (ha' : a.toNat % 0x4000 < 0x3F00) : s.videoRegion a = .nametable (ntIndex s.bus.mirroring (a.toNat % 0x4000)) := by
  simp only [State.videoRegion, if_neg ha.not_gt, ha', if_true]

theorem State.videoRegion_palette {s : State} {a : Word} (ha : 0x3F00 ≤ a.toNat % 0x4000) : s.videoRegion a = .palette := by
  simp only [State.videoRegion, show ¬ a.toNat % 0x4000 < 0x2000 by omega, if_neg ha.not_gt, if_false]

/-! ### CHR (R256, R270) -/

/-- The units of the eight windows, as a list. -/
def chrWindowUnits (m : Mapper) : List Nat := (List.range 8).map (chrWindowUnit m)

theorem getElem?_chrWindowUnits (m : Mapper) {u : Nat} (hu : u < 8) :
    (chrWindowUnits m)[u]? = some (chrWindowUnit m u) := by
  rw [chrWindowUnits, List.getElem?_map, List.getElem?_range hu, Option.map_some]

/-- R256: the mask of a bank register that selects a pair. -/
theorem pairUnit_toNat (b : Byte) : (b &&& 0xFE).toNat = b.toNat / 2 * 2 := by
  have hmask : b &&& (0xFE : Byte) = (b >>> 1) <<< 1 := by
    ext i hi
    interval_cases i <;> simp
  have hb := b.isLt
  rw [hmask, BitVec.toNat_shiftLeft, BitVec.toNat_ushiftRight, Nat.shiftRight_eq_div_pow, Nat.shiftLeft_eq]
  omega

theorem scanlineChrUnits_eq (m : ScanlineIrq) :
    (List.range 4).map (scanlineChrUnit m) =
        [m.bankReg[0].toNat / 2 * 2, m.bankReg[0].toNat / 2 * 2 + 1, m.bankReg[1].toNat / 2 * 2,
          m.bankReg[1].toNat / 2 * 2 + 1] ∧
      (List.range' 4 4).map (scanlineChrUnit m) =
        [m.bankReg[2].toNat, m.bankReg[3].toNat, m.bankReg[4].toNat, m.bankReg[5].toNat] := by
  rw [← pairUnit_toNat, ← pairUnit_toNat]
  exact ⟨rfl, rfl⟩

/-- R256: bit 7 of `bank_select` exchanges the pairs and the single units. -/
theorem chrWindowUnits_scanlineIrq (m : ScanlineIrq) :
    chrWindowUnits (.scanlineIrq m) =
      if m.bankSelect.getLsbD 7 then (List.range' 4 4).map (scanlineChrUnit m) ++ (List.range 4).map (scanlineChrUnit m)
      else (List.range 4).map (scanlineChrUnit m) ++ (List.range' 4 4).map (scanlineChrUnit m) := by
  have hselect : chrWindowUnit (.scanlineIrq m) =
      fun u => scanlineChrUnit m (if m.bankSelect.getLsbD 7 then u ^^^ 4 else u) := rfl
  rw [chrWindowUnits, hselect]
  cases m.bankSelect.getLsbD 7 <;> rfl

theorem chrWindowUnits_chrLatch (m : ChrLatch) :
    chrWindowUnits (.chrLatch m) =
      (List.range 4).map (fun i => (if m.latch0 = .fd then m.chrFd0 else m.chrFe0).toNat * 4 + i) ++
        (List.range 4).map (fun i => (if m.latch1 = .fd then m.chrFd1 else m.chrFe1).toNat * 4 + i) := by
  cases hlow : m.latch0 <;> cases hhigh : m.latch1 <;> simp [chrWindowUnits, chrWindowUnit, hlow, hhigh, List.range_succ]

/-- R251: the offset in CHR of a video address in window `u`. -/
theorem chrIndex_of_window (m : Mapper) (units : Nat) {a : Word} {u : Nat} (hu : u < 8)
    (hlow : u * 0x400 ≤ a.toNat % 0x4000) (hhigh : a.toNat % 0x4000 < (u + 1) * 0x400) :
    chrIndex m units (a.toNat % 0x4000) = chrWindowUnit m u % units * 1024 + a.toNat % 1024 := by
  have hwindow : a.toNat % 0x4000 / 1024 % 8 = u := by omega
  have hoffset : a.toNat % 0x4000 % 1024 = a.toNat % 1024 := by omega
  rw [chrIndex, hwindow, hoffset, chrUnit, chrUnitSize]

/-- Settles O52: the window is bits 12 to 10 of the address. -/
theorem chrWindowsShowTheSelectedUnits : Obligations.ChrWindowsShowTheSelectedUnits := by
  intro s a v u units hs hu hlow hhigh hunits
  have hpow := ((State.wf_iff s).1 hs).chrUnits
  have hregion := State.videoRegion_chr (s := s) (a := a) (by omega)
  rw [chrIndex_of_window _ _ hu hlow hhigh] at hregion
  have hlist : units = chrWindowUnits s.bus.mapper := by
    rw [hunits]
    cases s.bus.mapper with
    | fixed => rfl
    | scanlineIrq m =>
      obtain ⟨hpairs, hsingles⟩ := scanlineChrUnits_eq m
      rw [chrWindowUnits_scanlineIrq, hpairs, hsingles]
    | chrLatch m =>
      rw [chrWindowUnits_chrLatch]
      rfl
  refine ⟨chrWindowUnit s.bus.mapper u, _, ?_, rfl, mod_eq_and_of_isPowerOfTwo hpow _,
    Nat.mod_lt _ (isPowerOfTwo_pos _ hpow), ?_, ?_⟩
  · rw [hlist, getElem?_chrWindowUnits _ hu]
  · simp only [State.vread, hregion]
  · simp only [State.vwrite, hregion]

/-! ### Nametables (R260 to R262) -/

/-- The halves that the four nametables show, as a list. -/
def nametableHalves (m : Mirroring) : List Nat := (List.range 4).map (nametableHalf m)

/-- R260: the offset in VRAM of a video address in a nametable. -/
theorem ntIndex_of_half {m : Mirroring} {a : Word} {k : Nat} (hk : (nametableHalves m)[a.toNat / 1024 % 4]? = some k) :
    ntIndex m (a.toNat % 0x4000) = k * 1024 + a.toNat % 1024 := by
  have htable : a.toNat % 0x4000 / 1024 % 4 = a.toNat / 1024 % 4 := by omega
  have hoffset : a.toNat % 0x4000 % 1024 = a.toNat % 1024 := by omega
  rw [nametableHalves, List.getElem?_map, List.getElem?_range (Nat.mod_lt _ (by decide)), Option.map_some,
    Option.some.injEq] at hk
  rw [ntIndex, htable, hoffset, hk]

/-- Settles O53: two nametable addresses name one byte of VRAM where half and offset agree. -/
theorem nametablesAreMirrored : Obligations.NametablesAreMirrored := by
  intro s a b v halves k l hs hhalves
  have hlist : halves = nametableHalves s.bus.mirroring := by
    rw [hhalves]
    cases s.bus.mirroring <;> rfl
  rw [hlist]
  refine ⟨fun ha => ?palette, fun ha ha' hk => ?nametable⟩
  case palette =>
    have hregion := State.videoRegion_palette (s := s) ha
    simp only [State.vread, State.vwrite, hregion, and_self]
  case nametable =>
    have hregion := State.videoRegion_nametable (s := s) ha ha'
    rw [ntIndex_of_half hk] at hregion
    have hwrite : s.vwrite a v =
        { s with bus := { s.bus with vram := s.bus.vram.set (k * 1024 + a.toNat % 1024) v } } := by
      simp only [State.vwrite, hregion]
    refine ⟨by simp only [State.vread, hregion], hwrite, fun hb hb' hl => ?_⟩
    have hread (t : State) (ht : t.bus.mirroring = s.bus.mirroring) :
        t.vread b = t.bus.vram.get (l * 1024 + b.toNat % 1024) := by
      have hregion' := State.videoRegion_nametable (s := t) hb hb'
      rw [ht, ntIndex_of_half hl] at hregion'
      simp only [State.vread, hregion']
    rw [hread _ (by rw [hwrite]), hread s rfl, hwrite]
    split
    · rename_i hsame
      rw [← hsame.1, ← hsame.2]
      exact Memory.get_set_self _ _ _ _ ((State.wf_iff s).1 hs).vram
    · exact Memory.get_set_other _ _ _ _ (by omega)

end Sys2Proof.Machine
end

section
/-! The control registers of the mapper variants (R254, R268), the CHR latches (R271) and the scanline counter (R257). -/

namespace Sys2Proof.Machine

open Sys2Proof.Config

/-! ### The control registers (R254, R268) -/

/-- R254: address bits 15 to 13 and bit 0 select a register of `ScanlineIrq`. -/
theorem scanlineSelect_toNat (a : Word) : (a &&& 0xE001).toNat = a.toNat / 8192 * 8192 + a.toNat % 2 := by
  have hmask : a &&& (0xE001 : Word) = (a >>> 13) <<< 13 + (a &&& 1) := by
    have hdisjoint : (a >>> 13) <<< 13 &&& (a &&& 1) = 0 := by
      ext i hi
      interval_cases i <;> simp
    rw [BitVec.add_eq_or_of_and_eq_zero _ _ hdisjoint]
    ext i hi
    interval_cases i <;> simp
  have ha := a.isLt
  rw [hmask, BitVec.toNat_add, BitVec.toNat_shiftLeft, BitVec.toNat_ushiftRight, Nat.shiftRight_eq_div_pow,
    Nat.shiftLeft_eq, BitVec.toNat_and, show (1 : Word).toNat = 1 from rfl, Nat.and_one_is_mod]
  omega

/-- R268: address bits 15 to 12 select a register of `ChrLatch`. -/
theorem chrLatchSelect_toNat (a : Word) : (a &&& 0xF000).toNat = a.toNat / 4096 * 4096 := by
  have hmask : a &&& (0xF000 : Word) = (a >>> 12) <<< 12 := by
    ext i hi
    interval_cases i <;> simp
  have ha := a.isLt
  rw [hmask, BitVec.toNat_shiftLeft, BitVec.toNat_ushiftRight, Nat.shiftRight_eq_div_pow, Nat.shiftLeft_eq]
  omega

theorem mirroringOf_eq (v : Byte) : mirroringOf v = if v.toNat % 2 = 0 then .vertical else .horizontal := by
  have hbit : v.getLsbD 0 = decide (v.toNat % 2 = 1) := Nat.testBit_zero v.toNat
  rw [mirroringOf, hbit]
  rcases Nat.mod_two_eq_zero_or_one v.toNat with h | h <;> simp [h]

/-- R254: the bank register that `bank_select[2:0]` names is one of the eight. -/
theorem bankReg_set!_eq (m : ScanlineIrq) (v : Byte) :
    m.bankReg.set! (m.bankSelect.toNat % 8) v = m.bankReg.set (bankIndex m.bankSelect) v := by
  rw [Vector.set!_eq_setIfInBounds]
  ext i hi
  rw [Vector.getElem_setIfInBounds hi, Vector.getElem_set]
  rfl

/-- Settles O54: the eight registers, by the 8 KiB range of the address and its bit 0. -/
theorem scanlineRegistersTakeWrites : Obligations.ScanlineRegistersTakeWrites := by
  rintro s m a v even hbus hm ha rfl
  have hlt := a.isLt
  have hselect : a &&& 0xE001 = BitVec.ofNat 16 (a.toNat / 8192 * 8192 + a.toNat % 2) := by
    rw [← scanlineSelect_toNat, BitVec.ofNat_toNat, BitVec.setWidth_eq]
  have hwrite : s.write8 a v = s.scanlineWrite m a v := by
    rw [State.write8_prg hbus ha]
    simp only [State.mapperWrite, hm]
  have hA : a.toNat < 0xA000 ↔ a.toNat / 8192 < 5 := by omega
  have hC : a.toNat < 0xC000 ↔ a.toNat / 8192 < 6 := by omega
  have hE : a.toNat < 0xE000 ↔ a.toNat / 8192 < 7 := by omega
  have hrange : a.toNat / 8192 = 4 ∨ a.toNat / 8192 = 5 ∨ a.toNat / 8192 = 6 ∨ a.toNat / 8192 = 7 := by omega
  rw [hwrite, State.scanlineWrite, hselect]
  simp only [hA, hC, hE, bankReg_set!_eq, ← mirroringOf_eq]
  rcases hrange with h | h | h | h <;> rcases Nat.mod_two_eq_zero_or_one a.toNat with h' | h' <;> rw [h, h']
  all_goals rfl

/-- Settles O55: the sixteen ranges of 4 KiB, of which those from 0x8000 on reach the mapper; and the latches. -/
theorem chrLatchRegistersAndLatchFlips : Obligations.ChrLatchRegistersAndLatchFlips := by
  refine ⟨fun s m a v hm => ⟨fun hbus ha => ?registers, ?latches⟩, fun s a => State.notifyChrRead_of_kind a⟩
  case registers =>
    have hlt := a.isLt
    have hselect : a &&& 0xF000 = BitVec.ofNat 16 (a.toNat / 4096 * 4096) := by
      rw [← chrLatchSelect_toNat, BitVec.ofNat_toNat, BitVec.setWidth_eq]
    have hA : a.toNat < 0xA000 ↔ a.toNat / 4096 < 10 := by omega
    have hB : a.toNat < 0xB000 ↔ a.toNat / 4096 < 11 := by omega
    have hC : a.toNat < 0xC000 ↔ a.toNat / 4096 < 12 := by omega
    have hD : a.toNat < 0xD000 ↔ a.toNat / 4096 < 13 := by omega
    have hE : a.toNat < 0xE000 ↔ a.toNat / 4096 < 14 := by omega
    have hF : a.toNat < 0xF000 ↔ a.toNat / 4096 < 15 := by omega
    have hlow : 8 ≤ a.toNat / 4096 := by omega
    have hhigh : a.toNat / 4096 < 16 := by omega
    have hwrite : s.write8 a v = s.chrLatchWrite m a v := by
      rw [State.write8_prg hbus ha]
      simp only [State.mapperWrite, hm]
    rw [hwrite, State.chrLatchWrite, hselect]
    simp only [hA, hB, hC, hD, hE, hF, ← mirroringOf_eq]
    generalize a.toNat / 4096 = block at hlow hhigh
    interval_cases block <;> rfl
  case latches =>
    have hfd : a.toNat % 0x4000 < 0x1FE0 ↔ a.toNat % 0x4000 ≤ 0x1FDF := Nat.lt_succ_iff
    have hfe : a.toNat % 0x4000 < 0x1FF0 ↔ a.toNat % 0x4000 ≤ 0x1FEF := Nat.lt_succ_iff
    simp only [State.notifyChrRead, hm, ChrLatch.notify, Bool.and_eq_true, decide_eq_true_eq, hfd, hfe]

/-! ### The scanline counter (R257, R263) -/

section
variable {s : State} {m : ScanlineIrq}

theorem State.scanlineEdge_reload (hm : s.bus.mapper = .scanlineIrq m) (hzero : m.irqCounter = 0) :
    s.notifyScanlineEdge = s.setMapper (.scanlineIrq { m with irqCounter := m.irqLatch }) := by
  simp only [State.notifyScanlineEdge, hm, hzero, if_true]

/-- R257: an edge that does not bring the counter to 0, or finds the IRQ disabled. -/
theorem State.scanlineEdge_lower (hm : s.bus.mapper = .scanlineIrq m) (hpos : m.irqCounter ≠ 0)
    (hquiet : m.irqCounter ≠ 1 ∨ m.irqEnable = false) :
    s.notifyScanlineEdge = s.setMapper (.scanlineIrq { m with irqCounter := m.irqCounter - 1 }) := by
  have hcond : ¬ (decide (m.irqCounter - 1 = 0) && m.irqEnable) = true := by
    rw [Bool.and_eq_true, decide_eq_true_eq, sub_eq_zero]
    rintro ⟨hone, henabled⟩
    exact hquiet.elim (fun h => h hone) (fun h => by rw [h] at henabled; exact nomatch henabled)
  simp only [State.notifyScanlineEdge, hm, if_neg hpos, if_neg hcond]

theorem State.scanlineEdge_raise (hm : s.bus.mapper = .scanlineIrq m) (hone : m.irqCounter = 1)
    (henabled : m.irqEnable = true) :
    s.notifyScanlineEdge = (s.setMapper (.scanlineIrq { m with irqCounter := 0 })).setMapperIrq true := by
  simp [State.notifyScanlineEdge, hm, hone, henabled]

/-- R257: fewer edges than the counter says only count down. -/
theorem State.scanlineEdges_countDown (hm : s.bus.mapper = .scanlineIrq m) (k : Nat) (hk : k < m.irqCounter.toNat) :
    State.notifyScanlineEdge^[k] s =
      s.setMapper (.scanlineIrq { m with irqCounter := m.irqCounter - BitVec.ofNat 8 k }) := by
  induction k with
  | zero =>
    rw [Function.iterate_zero_apply, BitVec.sub_zero, State.setMapper, ← hm]
  | succ k ih =>
    have hlt := m.irqCounter.isLt
    rw [Function.iterate_succ_apply', ih (by omega), State.scanlineEdge_lower rfl (by bv_omega) (.inl (by bv_omega))]
    have hnext : m.irqCounter - BitVec.ofNat 8 k - 1 = m.irqCounter - BitVec.ofNat 8 (k + 1) := by bv_omega
    simp only [hnext]
    rfl

end

/-- Settles O56: the edges before the last count down to 1, and the last one brings the counter to 0. -/
theorem scanlineCounterRaisesTheIrq : Obligations.ScanlineCounterRaisesTheIrq := by
  refine ⟨fun s m k hm => ⟨State.scanlineEdges_countDown hm k, ?raised, ?disabled, State.scanlineEdge_reload hm⟩,
    fun s => State.notifyScanlineEdge_of_kind⟩
  all_goals
    rintro rfl hpos henable
    obtain ⟨k, hk⟩ := Nat.exists_eq_add_of_lt hpos
    have hone : m.irqCounter - BitVec.ofNat 8 k = 1 := by bv_omega
    rw [hk, Nat.zero_add, Function.iterate_succ_apply', State.scanlineEdges_countDown hm k (by omega), hone]
  case raised => exact State.scanlineEdge_raise (m := { m with irqCounter := 1 }) rfl rfl henable
  case disabled =>
    rw [State.scanlineEdge_lower (m := { m with irqCounter := 1 }) rfl (by simp) (.inr henable)]
    simp only [BitVec.sub_self]
    rfl

end Sys2Proof.Machine
end

section
/-! Nothing reads the outputs (R312, R350). A computation is `Silent` where it neither reads nor writes the cycle count and
the diagnostics sink, as long as no device sees the cycle count: it commutes with a change of the outputs. Silent computations
compose (`Silent.bind`), and every part of a step is one but for its end, which writes the count and adds its event; so an
instruction is `Blind`: a change of the outputs before it is the same change after it, up to the events added. -/

namespace Sys2Proof.Machine

open Sys2Proof.Config

/-! ### States that differ in their outputs -/

/-- The same machine with other outputs. -/
def State.withOutputs (s : State) (c : Nat) (d : List DiagEvent) : State := { s with cycles := c, diag := d }

theorem State.sameMachine.eq_withOutputs {s u : State} (h : s.sameMachine u) : u = s.withOutputs u.cycles u.diag := by
  obtain ⟨hreg, hintc, hbus, hparams⟩ := h
  rw [State.withOutputs, ← hreg, ← hintc, ← hbus, ← hparams]

theorem State.sameMachine_withOutputs (s : State) (c : Nat) (d : List DiagEvent) : s.sameMachine (s.withOutputs c d) :=
  ⟨rfl, rfl, rfl, rfl⟩

/-! ### Silent computations -/

/-- The computation leaves the outputs, takes no device access back, and gives the same with other outputs, if the cycle count
is the same or it reaches no device. -/
structure Silent {α : Type} (f : State → α × State) : Prop where
  outputs : ∀ s, (f s).2.cycles = s.cycles ∧ (f s).2.diag = s.diag
  tick : ∀ s, s.bus.deviceTick ≤ (f s).2.bus.deviceTick
  commutes : ∀ s c d, c = s.cycles ∨ (f s).2.bus.deviceTick = s.bus.deviceTick →
    f (s.withOutputs c d) = ((f s).1, (f s).2.withOutputs c d)

namespace Silent

variable {α β : Type}

/-- A computation that reads and writes registers, flags and the interrupt controller only. -/
theorem ofRegs {f : State → α × State} (outputs : ∀ s, (f s).2.cycles = s.cycles ∧ (f s).2.diag = s.diag)
    (bus : ∀ s, (f s).2.bus = s.bus) (commutes : ∀ s c d, f (s.withOutputs c d) = ((f s).1, (f s).2.withOutputs c d)) :
    Silent f :=
  ⟨outputs, fun s => by rw [bus], fun s c d _ => commutes s c d⟩

theorem ofEq {f g : State → α × State} (hf : Silent f) (h : ∀ s, g s = f s) : Silent g := by
  rwa [funext h]

/-- One computation after another. Where both together reach no device, neither does. -/
theorem bind {f : State → α × State} {g : α → State → β × State} (hf : Silent f) (hg : ∀ a, Silent (g a)) :
    Silent fun s => g (f s).1 (f s).2 where
  outputs s := by
    obtain ⟨hcycles, hdiag⟩ := hf.outputs s
    obtain ⟨gcycles, gdiag⟩ := (hg (f s).1).outputs (f s).2
    exact ⟨gcycles.trans hcycles, gdiag.trans hdiag⟩
  tick s := (hf.tick s).trans ((hg _).tick _)
  commutes s c d h := by
    have htick := hf.tick s
    have gtick := (hg (f s).1).tick (f s).2
    have hfirst : c = s.cycles ∨ (f s).2.bus.deviceTick = s.bus.deviceTick := h.imp_right fun h => by omega
    have hsecond : c = (f s).2.cycles ∨ (g (f s).1 (f s).2).2.bus.deviceTick = (f s).2.bus.deviceTick :=
      h.imp (fun h => h.trans (hf.outputs s).1.symm) fun h => by omega
    rw [hf.commutes s c d hfirst]
    exact (hg (f s).1).commutes (f s).2 c d hsecond

/-- A computation with an argument taken from registers or parameters. -/
theorem withArg {f : β → State → α × State} (x : State → β) (hx : ∀ s c d, x (s.withOutputs c d) = x s)
    (hf : ∀ b, Silent (f b)) : Silent fun s => f (x s) s :=
  (ofRegs (f := fun s => (x s, s)) (fun _ => ⟨rfl, rfl⟩) (fun _ => rfl)
    fun s c d => congrArg (·, s.withOutputs c d) (hx s c d)).bind hf

end Silent

/-! ### The bus calls of a device -/

section
variable (s : State) (c : Nat) (d : List DiagEvent)

theorem State.vwrite_withOutputs (a : Word) (v : Byte) :
    (s.withOutputs c d).vwrite a v = (s.vwrite a v).withOutputs c d := by
  have hregion : (s.withOutputs c d).videoRegion a = s.videoRegion a := rfl
  unfold State.vwrite
  rw [hregion]
  cases s.videoRegion a with
  | chr i =>
    simp only [apply_ite (State.withOutputs · c d)]
    rfl
  | nametable i => rfl
  | palette => rfl

theorem State.notifyScanlineEdge_withOutputs :
    (s.withOutputs c d).notifyScanlineEdge = s.notifyScanlineEdge.withOutputs c d := by
  have hmapper : (s.withOutputs c d).bus.mapper = s.bus.mapper := rfl
  unfold State.notifyScanlineEdge
  rw [hmapper]
  cases s.bus.mapper with
  | scanlineIrq m =>
    simp only [apply_ite (State.withOutputs · c d)]
    rfl
  | fixed => rfl
  | chrLatch m => rfl

theorem State.notifyChrRead_withOutputs (a : Word) :
    (s.withOutputs c d).notifyChrRead a = (s.notifyChrRead a).withOutputs c d := by
  have hmapper : (s.withOutputs c d).bus.mapper = s.bus.mapper := rfl
  unfold State.notifyChrRead
  rw [hmapper]
  cases s.bus.mapper <;> rfl

theorem State.applyEffect_withOutputs (e : DeviceEffect) :
    (s.withOutputs c d).applyEffect e = (s.applyEffect e).withOutputs c d := by
  cases e with
  | setExtIrq level => rfl
  | notifyChrRead a => exact s.notifyChrRead_withOutputs c d a
  | notifyScanlineEdge => exact s.notifyScanlineEdge_withOutputs c d
  | chrWrite a v => exact s.vwrite_withOutputs c d a v
  | ntWrite a v => exact s.vwrite_withOutputs c d a v

end

theorem State.applyEffects_withOutputs (es : List DeviceEffect) (s : State) (c : Nat) (d : List DiagEvent) :
    (s.withOutputs c d).applyEffects es = (s.applyEffects es).withOutputs c d := by
  induction es generalizing s with
  | nil => rfl
  | cons e rest ih => rw [State.applyEffects, s.applyEffect_withOutputs, ih]; rfl

theorem State.mapperWrite_withOutputs (s : State) (c : Nat) (d : List DiagEvent) (a : Word) (v : Byte) :
    (s.withOutputs c d).mapperWrite a v = (s.mapperWrite a v).withOutputs c d := by
  have hmapper : (s.withOutputs c d).bus.mapper = s.bus.mapper := rfl
  unfold State.mapperWrite
  rw [hmapper]
  cases s.bus.mapper with
  | fixed => rfl
  | scanlineIrq m =>
    simp only [State.scanlineWrite, apply_ite (State.withOutputs · c d)]
    rfl
  | chrLatch m =>
    simp only [State.chrLatchWrite, apply_ite (State.withOutputs · c d)]
    rfl

/-! ### The memory trait -/

/-- R246, R312: an access of a device register: the device may see the cycle count, and the access is counted. -/
theorem State.deviceRead_withOutputs (s : State) (d : List DiagEvent) (port : DevicePort) (reg : BitVec 5) :
    (s.withOutputs s.cycles d).deviceRead port reg =
      ((s.deviceRead port reg).1, (s.deviceRead port reg).2.withOutputs s.cycles d) := by
  have hseen : (s.withOutputs s.cycles d).withoutSink = s.withoutSink := rfl
  simp only [State.deviceRead, hseen, State.applyEffects_withOutputs]
  rfl

theorem State.deviceWrite_withOutputs (s : State) (d : List DiagEvent) (port : DevicePort) (reg : BitVec 5) (v : Byte) :
    (s.withOutputs s.cycles d).deviceWrite port reg v = (s.deviceWrite port reg v).withOutputs s.cycles d := by
  have hseen : (s.withOutputs s.cycles d).withoutSink = s.withoutSink := rfl
  simp only [State.deviceWrite, hseen, State.applyEffects_withOutputs]
  rfl

theorem silent_read8 (a : Word) : Silent fun s => s.read8 a where
  outputs s := ⟨s.read8_cycles a, s.read8_diag a⟩
  tick s := by rw [s.read8_deviceTick a]; exact Nat.le_add_right _ _
  commutes s c d h := by
    have hparams : (s.withOutputs c d).params = s.params := rfl
    simp only [State.read8, hparams] at h ⊢
    cases hr : region s.params a with
    | device port reg =>
      simp only [hr, s.deviceRead_deviceTick, Nat.succ_ne_self, or_false] at h
      rw [h]
      exact s.deviceRead_withOutputs d port reg
    | _ => rfl

theorem silent_write8 (a : Word) (v : Byte) : Silent fun s => ((), s.write8 a v) where
  outputs s := ⟨s.write8_cycles a v, s.write8_diag a v⟩
  tick s := by rw [s.write8_deviceTick a v]; exact Nat.le_add_right _ _
  commutes s c d h := by
    have hparams : (s.withOutputs c d).params = s.params := rfl
    refine congrArg (Prod.mk ()) ?_
    simp only [State.write8, hparams] at h ⊢
    cases hr : region s.params a with
    | device port reg =>
      simp only [hr, s.deviceWrite_deviceTick, Nat.succ_ne_self, or_false] at h
      rw [h]
      exact s.deviceWrite_withOutputs d port reg v
    | prg => exact s.mapperWrite_withOutputs c d a v
    | _ => rfl

/-! ### The parts of a step, each a sequence of memory accesses and register updates -/

/-- An update of registers, flags or the NMI latch. -/
theorem Silent.update {f : State → State} (outputs : ∀ s, (f s).cycles = s.cycles ∧ (f s).diag = s.diag)
    (bus : ∀ s, (f s).bus = s.bus) (commutes : ∀ s c d, f (s.withOutputs c d) = (f s).withOutputs c d) :
    Silent fun s => ((), f s) :=
  .ofRegs outputs bus fun s c d => congrArg (Prod.mk ()) (commutes s c d)

/-- The last value of a sequence. -/
theorem silent_pure {α : Type} (a : α) : Silent fun s => (a, s) :=
  .ofRegs (fun _ => ⟨rfl, rfl⟩) (fun _ => rfl) fun _ _ _ => rfl

theorem silent_updateReg (g : Regs → Regs) : Silent fun s => ((), { s with reg := g s.reg }) :=
  .update (fun _ => ⟨rfl, rfl⟩) (fun _ => rfl) fun _ _ _ => rfl

theorem silent_setPc (w : Word) : Silent fun s => ((), s.setPc w) := silent_updateReg fun g => { g with pc := w }

theorem silent_setP (p : Flags) : Silent fun s => ((), s.setP p) := silent_updateReg fun g => { g with p := p }

theorem silent_setA (v : Byte) : Silent fun s => ((), s.setA v) := silent_updateReg fun g => { g with a := v }

/-- R170. -/
theorem silent_setZN (v : Byte) : Silent fun s => ((), s.setZN v) := silent_updateReg fun g => { g with p := g.p.setZN v }

theorem silent_read16 (a : Word) : Silent fun s => s.read16 a :=
  .ofEq ((silent_read8 a).bind fun lo => (silent_read8 (a + 1)).bind fun hi => silent_pure (wordOf hi lo)) fun _ => rfl

theorem silent_push (v : Byte) : Silent fun s => ((), s.push v) :=
  .ofEq
    (.withArg (fun s => stackAddr s.reg.s) (fun _ _ _ => rfl) fun a =>
      (silent_write8 a v).bind fun _ => silent_updateReg fun g => { g with s := g.s - 1 })
    fun _ => rfl

theorem silent_pushWord (w : Word) : Silent fun s => ((), s.pushWord w) :=
  .ofEq ((silent_push (highByte w)).bind fun _ => silent_push (lowByte w)) fun _ => rfl

theorem silent_pull : Silent State.pull :=
  .ofEq
    ((silent_updateReg fun g => { g with s := g.s + 1 }).bind fun _ =>
      .withArg (fun s => stackAddr s.reg.s) (fun _ _ _ => rfl) silent_read8)
    fun _ => rfl

theorem silent_pullWord : Silent State.pullWord :=
  .ofEq (silent_pull.bind fun lo => silent_pull.bind fun hi => silent_pure (wordOf hi lo)) fun _ => rfl

/-- R296. -/
theorem silent_interrupt (vector : Word) (b : Bool) (r : Word) : Silent fun s => ((), s.interrupt vector b r) :=
  .ofEq
    ((silent_pushWord r).bind fun _ =>
      (Silent.withArg (fun s => s.reg.p.statusByte b) (fun _ _ _ => rfl) silent_push).bind fun _ =>
      (silent_updateReg fun g => { g with p := { g.p with i := true } }).bind fun _ =>
      (silent_read16 vector).bind silent_setPc)
    fun _ => rfl

/-- R212. -/
theorem silent_call (w : Word) : Silent fun s => ((), (s.pushWord (s.reg.pc - 1)).setPc w) :=
  .ofEq
    ((Silent.withArg (fun s => s.reg.pc - 1) (fun _ _ _ => rfl) silent_pushWord).bind fun _ => silent_setPc w)
    fun _ => rfl

/-- R213. -/
theorem silent_returnFromSubroutine : Silent fun s => ((), returnFromSubroutine s) :=
  .ofEq (silent_pullWord.bind fun w => silent_setPc (w + 1)) fun _ => rfl

/-- R193. -/
theorem silent_pullA : Silent fun s => ((), pullA s) :=
  .ofEq (silent_pull.bind fun v => (silent_setA v).bind fun _ => silent_setZN v) fun _ => rfl

/-- R194. -/
theorem silent_pullP : Silent fun s => ((), pullP s) :=
  .ofEq (silent_pull.bind fun v => silent_setP (Flags.ofStatusByte v)) fun _ => rfl

/-- R231. -/
theorem silent_returnFromInterrupt : Silent fun s => ((), s.returnFromInterrupt) :=
  .ofEq
    (silent_pull.bind fun v =>
      (silent_setP (Flags.ofStatusByte v)).bind fun _ => silent_pullWord.bind silent_setPc)
    fun _ => rfl

theorem silent_fetch : Silent State.fetch :=
  .ofEq
    ((Silent.withArg (fun s => s.reg.pc) (fun _ _ _ => rfl) silent_read8).bind fun v =>
      (silent_updateReg fun g => { g with pc := g.pc + 1 }).bind fun _ => silent_pure v)
    fun _ => rfl

/-- R81: what the fetch does after the opcode byte: it reads none, one or two operand bytes. -/
def State.fetchOperands (op : Byte) (s : State) : Instr × State :=
  match (dispatch op).mode.length with
  | 1 => ((dispatch op).build 0 0, s)
  | 2 => ((dispatch op).build s.fetch.1 0, s.fetch.2)
  | _ => ((dispatch op).build s.fetch.1 s.fetch.2.fetch.1, s.fetch.2.fetch.2)

theorem State.fetchInstr_eq (s : State) : s.fetchInstr = s.fetch.2.fetchOperands s.fetch.1 := rfl

theorem silent_fetchOperands (op : Byte) : Silent (State.fetchOperands op) := by
  unfold State.fetchOperands
  split
  · exact silent_pure _
  · exact silent_fetch.bind fun lo => silent_pure ((dispatch op).build lo 0)
  · exact silent_fetch.bind fun lo => silent_fetch.bind fun hi => silent_pure ((dispatch op).build lo hi)

theorem silent_fetchInstr : Silent State.fetchInstr :=
  .ofEq (silent_fetch.bind silent_fetchOperands) State.fetchInstr_eq

/-! ### The resolver (R100) -/

theorem silent_readZeroPagePointer (z : Byte) : Silent fun s => s.readZeroPagePointer z :=
  .ofEq
    ((silent_read8 (zeroPage z)).bind fun lo =>
      (silent_read8 (zeroPage (z + 1))).bind fun hi => silent_pure (wordOf hi lo))
    fun _ => rfl

theorem silent_readJumpPointer (w : Word) : Silent fun s => s.readJumpPointer w :=
  .ofEq
    ((silent_read8 w).bind fun lo =>
      (silent_read8 (wordOf (highByte w) (lowByte w + 1))).bind fun hi => silent_pure (wordOf hi lo))
    fun _ => rfl

/-- What the resolver answers: the effective address with the page-cross bit, and the state. -/
theorem silent_resolve (o : Operand) :
    Silent fun s => (((resolve o s).ea, (resolve o s).crossed), (resolve o s).state) := by
  cases o with
  | ind w => exact .ofEq ((silent_readJumpPointer w).bind fun ea => silent_pure (ea, false)) fun _ => rfl
  | izx b =>
    exact .ofEq
      ((Silent.withArg (fun s => b + s.reg.x) (fun _ _ _ => rfl) silent_readZeroPagePointer).bind fun ea =>
        silent_pure (ea, false))
      fun _ => rfl
  | izy b =>
    exact .ofEq
      (.withArg (fun s => s.reg.y) (fun _ _ _ => rfl) fun y =>
        (silent_readZeroPagePointer b).bind fun base =>
          silent_pure (base + y.setWidth 16, pagesDiffer (base + y.setWidth 16) base))
      fun _ => rfl
  | _ => exact .ofRegs (fun _ => ⟨rfl, rfl⟩) (fun _ => rfl) fun _ _ _ => rfl

theorem silent_fetchOperand (o : Operand) (ea : Word) (crossed : Bool) :
    Silent fun s => (Resolved.mk ea crossed s).fetchOperand o := by
  cases o with
  | imm b => exact silent_pure b
  | _ => exact silent_read8 ea

/-! ### Blind instructions -/

/-- Other outputs before give other outputs after, and nothing else: the same count, and the same events added. -/
def Blind (o : State → Host.Outcome State Fault Refusal) : Prop :=
  ∀ s t c d, o s = .next t → (c = s.cycles ∨ t.bus.deviceTick = s.bus.deviceTick) →
    ∃ es, t.diag = s.diag ++ es ∧ o (s.withOutputs c d) = .next (t.withOutputs t.cycles (d ++ es))

/-- A silent computation, and at its end the events and the count that it answers. -/
theorem Silent.blind {f : State → (Nat × List DiagEvent) × State} (hf : Silent f)
    {o : State → Host.Outcome State Fault Refusal}
    (ho : ∀ s, o s = .next ((f s).2.withOutputs (f s).1.1 ((f s).2.diag ++ (f s).1.2))) : Blind o := by
  intro s t c d h hseen
  rw [ho] at h ⊢
  cases h
  refine ⟨(f s).1.2, congrArg (· ++ (f s).1.2) (hf.outputs s).2, ?_⟩
  rw [hf.commutes s c d hseen]
  rfl

/-- The same without events. -/
theorem Silent.blind_took {α : Type} {f : State → α × State} (hf : Silent f) (n : α → Nat)
    {o : State → Host.Outcome State Fault Refusal} (ho : ∀ s, o s = .next ((f s).2.took (n (f s).1))) : Blind o := by
  refine (hf.bind fun a => silent_pure (n a, ([] : List DiagEvent))).blind fun s => ?_
  rw [ho, List.append_nil]
  rfl

theorem blind_impliedInstr (c : Nat) {op : State → State} (hop : Silent fun s => ((), op s)) : Blind (impliedInstr c op) :=
  hop.blind_took (fun _ => c) (impliedInstr_eq c op)

/-- R115, class "read". -/
theorem blind_readInstr (c : Nat) (p : Bool) (o : Operand) {op : Byte → State → State}
    (hop : ∀ m, Silent fun s => ((), op m s)) : Blind (readInstr c p o op) := by
  have hf := (silent_resolve o).bind fun r => (silent_fetchOperand o r.1 r.2).bind fun m =>
    (hop m).bind fun _ => silent_pure (if r.2 then 1 else 0)
  exact hf.blind_took (fun penalty => c + if p then penalty else 0) fun _ => rfl

theorem blind_storeInstr (c : Nat) (o : Operand) (v : State → Byte) (hv : ∀ s c d, v (s.withOutputs c d) = v s) :
    Blind fun s => storeInstr c o (v s) s := by
  have hf := Silent.withArg v hv fun v => (silent_resolve o).bind fun r => silent_write8 r.1 v
  exact hf.blind_took (fun _ => c) fun _ => rfl

theorem blind_rmwInstr (c : Nat) (o : Operand) {op : Byte → State → Byte × State} (hop : ∀ m, Silent (op m)) :
    Blind (rmwInstr c o op) := by
  have hf := (silent_resolve o).bind fun r => (silent_read8 r.1).bind fun m => (hop m).bind fun v =>
    (silent_write8 r.1 v).bind fun _ => silent_setZN v
  exact hf.blind_took (fun _ => c) fun _ => rfl

theorem blind_accInstr (c : Nat) {op : Byte → State → Byte × State} (hop : ∀ m, Silent (op m)) : Blind (accInstr c op) := by
  have hf := (Silent.withArg (fun s => s.reg.a) (fun _ _ _ => rfl) hop).bind fun v =>
    (silent_setA v).bind fun _ => silent_setZN v
  exact hf.blind_took (fun _ => c) fun _ => rfl

/-- R214: the flags decide, and they are no output. -/
theorem blind_branchInstr (cond : Flags → Bool) (b : Byte) : Blind (branchInstr cond b) := by
  have htaken : Silent fun s : State =>
      (2 + 1 + (resolve (.rel b) s).penalty, s.setPc (resolve (.rel b) s).ea) :=
    .ofRegs (fun _ => ⟨rfl, rfl⟩) (fun _ => rfl) fun _ _ _ => rfl
  have hf := Silent.withArg (fun s => cond s.reg.p) (fun _ _ _ => rfl) (f := fun c s =>
    if c then (2 + 1 + (resolve (.rel b) s).penalty, s.setPc (resolve (.rel b) s).ea) else (2, s)) fun c => by
      cases c with
      | true => exact htaken
      | false => exact silent_pure 2
  refine hf.blind_took id fun s => ?_
  unfold branchInstr
  dsimp only
  split <;> rfl

theorem blind_jumpTo (c : Nat) (o : Operand) : Blind (jumpTo c o) :=
  ((silent_resolve o).bind fun r => silent_setPc r.1).blind_took (fun _ => c) fun _ => rfl

theorem blind_undefinedOpcode (op : Byte) : Blind (undefinedOpcode op) := by
  have hf : Silent fun s : State => ((2, [DiagEvent.undefinedOpcode (s.reg.pc - 1) op]), s) :=
    .ofRegs (fun _ => ⟨rfl, rfl⟩) (fun _ => rfl) fun _ _ _ => rfl
  exact hf.blind fun _ => rfl

/-- R230, R296: BRK's event names PC0. -/
theorem blind_brk : Blind execBrk := by
  have hf := Silent.withArg (fun s => s.reg.pc) (fun _ _ _ => rfl) fun pc =>
    (silent_interrupt irqVector true (pc + 1)).bind fun _ => silent_pure (7, [DiagEvent.brk (pc - 1)])
  exact hf.blind fun _ => rfl

theorem blind_serviceIrq : Blind fun s => .next s.serviceIrq := by
  have hf := Silent.withArg (fun s => s.reg.pc) (fun _ _ _ => rfl) fun pc =>
    (silent_interrupt irqVector false pc).bind fun _ => silent_pure (7, [DiagEvent.irqServiced pc])
  exact hf.blind fun _ => rfl

/-- R297: the latch is cleared first. -/
theorem blind_serviceNmi : Blind fun s => .next s.serviceNmi := by
  have hf := Silent.withArg (fun s => s.reg.pc) (fun _ _ _ => rfl) fun pc =>
    (Silent.update (f := fun s => { s with intc := { s.intc with nmiPending := false } }) (fun _ => ⟨rfl, rfl⟩)
      (fun _ => rfl) fun _ _ _ => rfl).bind fun _ =>
    (silent_interrupt nmiVector false pc).bind fun _ => silent_pure (7, [DiagEvent.nmiServiced pc])
  exact hf.blind fun _ => rfl

/-- Every instruction, by the shape of its meaning, as in `AccessClosed.exec`. -/
theorem blind_exec (i : Instr) : Blind (exec i) := by
  cases i with
  | adcImm | adcZp | adcZpx | adcAbs | adcAbx | adcAby | adcIzx | adcIzy
  | sbcImm | sbcZp | sbcZpx | sbcAbs | sbcAbx | sbcAby | sbcIzx | sbcIzy
  | andImm | andZp | andZpx | andAbs | andAbx | andAby | andIzx | andIzy
  | oraImm | oraZp | oraZpx | oraAbs | oraAbx | oraAby | oraIzx | oraIzy
  | eorImm | eorZp | eorZpx | eorAbs | eorAbx | eorAby | eorIzx | eorIzy
  | bitZp | bitAbs
  | cmpImm | cmpZp | cmpZpx | cmpAbs | cmpAbx | cmpAby | cmpIzx | cmpIzy
  | cpxImm | cpxZp | cpxAbs | cpyImm | cpyZp | cpyAbs
  | ldaImm | ldaZp | ldaZpx | ldaAbs | ldaAbx | ldaAby | ldaIzx | ldaIzy
  | ldxImm | ldxZp | ldxZpy | ldxAbs | ldxAby | ldyImm | ldyZp | ldyZpx | ldyAbs | ldyAbx =>
    exact blind_readInstr _ _ _ fun _ => .update (fun _ => ⟨rfl, rfl⟩) (fun _ => rfl) fun _ _ _ => rfl
  | incZp | incZpx | incAbs | incAbx | decZp | decZpx | decAbs | decAbx
  | aslZp | aslZpx | aslAbs | aslAbx | lsrZp | lsrZpx | lsrAbs | lsrAbx
  | rolZp | rolZpx | rolAbs | rolAbx | rorZp | rorZpx | rorAbs | rorAbx =>
    exact blind_rmwInstr _ _ fun _ => .ofRegs (fun _ => ⟨rfl, rfl⟩) (fun _ => rfl) fun _ _ _ => rfl
  | aslAcc | lsrAcc | rolAcc | rorAcc =>
    exact blind_accInstr _ fun _ => .ofRegs (fun _ => ⟨rfl, rfl⟩) (fun _ => rfl) fun _ _ _ => rfl
  | staZp | staZpx | staAbs | staAbx | staAby | staIzx | staIzy =>
    exact blind_storeInstr _ _ (fun s => s.reg.a) fun _ _ _ => rfl
  | stxZp | stxZpy | stxAbs => exact blind_storeInstr _ _ (fun s => s.reg.x) fun _ _ _ => rfl
  | styZp | styZpx | styAbs => exact blind_storeInstr _ _ (fun s => s.reg.y) fun _ _ _ => rfl
  | inx | iny | dex | dey | tax | tay | txa | tya | tsx | txs
  | clc | sec | cli | sei | cld | sed | clv | nop =>
    exact blind_impliedInstr _ (.update (fun _ => ⟨rfl, rfl⟩) (fun _ => rfl) fun _ _ _ => rfl)
  | pha => exact blind_impliedInstr _ (.withArg (fun s => s.reg.a) (fun _ _ _ => rfl) silent_push)
  | php => exact blind_impliedInstr _ (.withArg (fun s => s.reg.p.statusByte true) (fun _ _ _ => rfl) silent_push)
  | pla => exact blind_impliedInstr 4 silent_pullA
  | plp => exact blind_impliedInstr 4 silent_pullP
  | jmpAbs | jmpInd => exact blind_jumpTo _ _
  | jsr w => exact (silent_call w).blind_took (fun _ => 6) (exec_jsr w)
  | rts => exact blind_impliedInstr 6 silent_returnFromSubroutine
  | bcs | beq | bmi | bvs => exact blind_branchInstr _ _
  | bcc => exact blind_branchInstr (fun p => !p.c) _
  | bne => exact blind_branchInstr (fun p => !p.z) _
  | bpl => exact blind_branchInstr (fun p => !p.n) _
  | bvc => exact blind_branchInstr (fun p => !p.v) _
  | brk => exact blind_brk
  | rti => exact blind_impliedInstr 6 silent_returnFromInterrupt
  | _ => exact blind_undefinedOpcode _

/-! ### The step -/

/-- R246: no step takes a device access back. -/
theorem deviceTick_accessClosed : AccessClosed fun s t => s.bus.deviceTick ≤ t.bus.deviceTick where
  trans hst htu := hst.trans htu
  ofKeepsBus k := by rw [k.bus]
  read8 s a := (silent_read8 a).tick s
  write8 s a v := (silent_write8 a v).tick s

/-- R245: on the flat RAM there is no device register. -/
theorem flatRam_accessClosed :
    AccessClosed fun s t => s.params.bus = .flatRam → t.params.bus = .flatRam ∧ t.bus.deviceTick = s.bus.deviceTick where
  trans hst htu hs := by
    obtain ⟨ht, htick⟩ := hst hs
    obtain ⟨hu, htick'⟩ := htu ht
    exact ⟨hu, htick'.trans htick⟩
  ofKeepsBus k hs := by rw [k.bus, k.params]; exact ⟨hs, rfl⟩
  read8 s a hs := by rw [s.read8_params, s.read8_deviceTick, s.isDevice_flat a hs]; exact ⟨hs, rfl⟩
  write8 s a v hs := by rw [s.write8_params, s.write8_deviceTick, s.isDevice_flat a hs]; exact ⟨hs, rfl⟩

/-- R290: the requests and I decide on the branch, and they are no outputs. -/
theorem blind_step : Blind step := by
  intro s t c d hstep hseen
  have hsame : (s.withOutputs c d).intc = s.intc ∧ (s.withOutputs c d).reg = s.reg := ⟨rfl, rfl⟩
  unfold step at hstep ⊢
  rw [hsame.1, hsame.2]
  split at hstep
  · rename_i hnmi
    rw [if_pos hnmi]
    exact blind_serviceNmi s t c d hstep hseen
  · rename_i hnmi
    rw [if_neg hnmi]
    split at hstep
    · rename_i hirq
      rw [if_pos hirq]
      exact blind_serviceIrq s t c d hstep hseen
    · rename_i hirq
      rw [if_neg hirq]
      have htick := silent_fetchInstr.tick s
      have htick' := deviceTick_accessClosed.exec _ _ t hstep
      obtain ⟨hcycles, hdiag⟩ := silent_fetchInstr.outputs s
      have hfetch := silent_fetchInstr.commutes s c d (hseen.imp_right fun h => by omega)
      obtain ⟨es, hevents, hnext⟩ :=
        blind_exec _ _ t c d hstep (hseen.imp (fun h => h.trans hcycles.symm) fun h => by omega)
      refine ⟨es, by rw [hevents, hdiag], ?_⟩
      dsimp only
      rw [hfetch]
      exact hnext

/-- Settles O49: the second machine is the first with other outputs; on the flat RAM the count of device accesses stays. -/
theorem outputsAreNotRead : Obligations.OutputsAreNotRead := by
  intro s u s' u' hsame hs hu hseen
  have hother := hsame.eq_withOutputs
  have hseen' : u.cycles = s.cycles ∨ s'.bus.deviceTick = s.bus.deviceTick := by
    rcases hseen with hcycles | hflat | htick
    · exact .inl hcycles
    · exact .inr (flatRam_accessClosed.step s s' hs hflat).2
    · exact .inr htick
  obtain ⟨es, hevents, hnext⟩ := blind_step s s' u.cycles u.diag hs hseen'
  obtain rfl : s'.withOutputs s'.cycles (u.diag ++ es) = u' := by
    rw [← hother] at hnext
    exact Host.Outcome.next.inj (hnext.symm.trans hu)
  exact ⟨s'.sameMachine_withOutputs _ _, rfl, es, hevents, rfl⟩

end Sys2Proof.Machine
end
